-- ==== Sys2Proof/Word.lean ====
section
/-! DEFINITION. The widths that occur on I2CSEQ's ports and in its registers (00_scope.md R5). -/

namespace Sys2Proof

/-- A command byte, a register offset or a byte on the wire. -/
abbrev Byte := BitVec 8

/-- A segment code, `req_data`, or COUNT. -/
abbrev Word := BitVec 16

/-- A decimal digit, a ROM index, an opcode or a parameter nibble. -/
abbrev Nibble := BitVec 4

end Sys2Proof
end

