-- ==== Sys2Proof/Config.lean ====
section
/-! DEFINITION. What is fixed for one I2CSEQ: the parameters of 00_scope.md, and the free values the spec leaves open. -/

namespace Sys2Proof

/-- The ten words of SEG_ROM, by digit (00_scope.md R11, 10_state.md R39). -/
structure SegRom where
  w0 : Word
  w1 : Word
  w2 : Word
  w3 : Word
  w4 : Word
  w5 : Word
  w6 : Word
  w7 : Word
  w8 : Word
  w9 : Word
deriving DecidableEq, Repr, Inhabited

/-- The parameters a model takes (00_scope.md R8, R11, R12). A SEG_ROM word is 16 bits by its type; the ranges of the
others are checked by `Config.wf`. -/
structure Config where
  /-- COUNT_INIT, R8. -/
  countInit : Int
  /-- BRIGHTNESS, R12. -/
  brightness : Nat
  /-- BLINK, R12. -/
  blink : Nat
  /-- SEG_ROM, R11. -/
  segRom : SegRom
deriving DecidableEq, Repr, Inhabited

/-- A configuration is well formed (00_scope.md R15). -/
def Config.wf (c : Config) : Bool :=
  decide (-1 ≤ c.countInit) && decide (c.countInit ≤ 9999) && decide (c.brightness ≤ 15) && decide (c.blink ≤ 3)

/-- One step of one agent, as an input of the machine (00_scope.md R4, R5). -/
inductive Move where
  /-- HOST holds `cmd_valid` at 1 with this `cmd_op` (30_encoding.md R71). -/
  | host (op : BitVec 3)
  /-- SEQ takes its enabled step. -/
  | seq
  /-- TMR pulses `ms_strobe` (43_tick_timer.md R171). -/
  | strobe
  /-- BUS drives `bus_rsp_valid` with this `bus_rsp_ok` (41_bus_ops.md R120). -/
  | answer (ok : Bool)
  /-- `rst` is asserted (70_reset_and_hazards.md R230). -/
  | rst
deriving DecidableEq, Repr, Inhabited

/-- BUS_NAME, passed to the transport and never inspected (00_scope.md R7). Free value. -/
opaque Config.busName : String

/-- The move made when no input is listed: any enabled step of any agent may be taken next (00_scope.md R4,
60_exceptions.md R216). Free value, by the number of draws made before it. -/
opaque Config.freeMove : Nat → Move

/-- A byte of the display RAM after a failed register write (60_exceptions.md R211). Free value, by draw. -/
opaque Config.freeByte : Nat → Byte

/-- A setting of the HT16K33 after a failed command write (60_exceptions.md R211). Free value, by draw. -/
opaque Config.freeNibble : Nat → Nibble

end Sys2Proof
end

