-- ==== Sys2Proof/Machine/Params.lean ====
section
/-! DEFINITION. The constants of I2CSEQ and the parameters' default values (00_scope.md section 5). -/

namespace Sys2Proof.Machine

/-- CHIP_ADDR (00_scope.md R6). -/
def chipAddr : BitVec 7 := 0x70#7

/-- TICK_DELAY_MS (00_scope.md R9). -/
def tickDelayMs : BitVec 7 := 100#7

/-- FIRST_TICK_DELAY_MS (00_scope.md R9). -/
def firstTickDelayMs : BitVec 7 := 0#7

/-- REG_MAP, by digit position (00_scope.md R10, 20_memory.md R52). -/
def regMap (i : BitVec 2) : Byte :=
  if i = 0#2 then 0x00#8 else if i = 1#2 then 0x02#8 else if i = 2#2 then 0x04#8 else 0x06#8

/-- The offset is an entry of REG_MAP (20_memory.md R57). -/
def inRegMap (r : Byte) : Bool :=
  r == regMap 0#2 || r == regMap 1#2 || r == regMap 2#2 || r == regMap 3#2

/-- The default SEG_ROM (40_datapath.md R103). -/
def defaultSegRom : SegRom where
  w0 := 0x003F#16
  w1 := 0x0006#16
  w2 := 0x005B#16
  w3 := 0x004F#16
  w4 := 0x0066#16
  w5 := 0x006D#16
  w6 := 0x007D#16
  w7 := 0x0007#16
  w8 := 0x007F#16
  w9 := 0x006F#16

/-- The default parameters (00_scope.md R8, R11, R12). -/
def defaultConfig : Config where
  countInit := 1000
  brightness := 15
  blink := 0
  segRom := defaultSegRom

end Sys2Proof.Machine
end

