-- ==== Sys2Proof/Syntax.lean ====
section
/-! DEFINITION. The operations of I2CSEQ, one constructor per row of spec/opcode_table.json, and the words that cross its
ports (30_encoding.md R70). -/

namespace Sys2Proof

/-- The operations (30_encoding.md R70, R71, R73, R75, R77, R78, R79). -/
inductive Instr where
  /-- OPEN, format H. -/
  | hostOpen
  /-- START, format H. -/
  | hostStart
  /-- STOP, format H. -/
  | hostStop
  /-- CLOSE, format H. -/
  | hostClose
  /-- The reserved op 0b000. -/
  | reserved000
  /-- The reserved op 0b101. -/
  | reserved101
  /-- The reserved op 0b110. -/
  | reserved110
  /-- The reserved op 0b111. -/
  | reserved111
  /-- WRITE_CMD with opcode 0x2, format C8. -/
  | writeCmdSysSetup (par : Nibble)
  /-- WRITE_CMD with opcode 0x8, format C8. -/
  | writeCmdDisplaySetup (par : Nibble)
  /-- WRITE_CMD with opcode 0xE, format C8. -/
  | writeCmdDimming (par : Nibble)
  /-- WRITE_REG16, format W16. -/
  | writeReg16 (reg : Byte) (value : Word)
  /-- OPEN_DEVICE, format D. Its arguments are the constants BUS_NAME and CHIP_ADDR. -/
  | openDevice
  /-- CLOSE_DEVICE, format D. -/
  | closeDevice
  /-- TICK, the internal event of the periodic timer, format I. -/
  | tick
  /-- STROBE, one pulse of `ms_strobe`, format I. -/
  | strobe
  /-- FORMAT, on COUNT, format I. -/
  | format
  /-- ENCODE, format X: the ROM index. -/
  | encode (d : Nibble)
  /-- MUX, format X: the digit position 0 to 3. -/
  | mux (i : BitVec 2)
deriving DecidableEq, Repr

/-- What is on a port, or inside the block, when an operation happens. TICK, FORMAT, ENCODE and MUX put no bits on a port
(30_encoding.md R70, R78); the last four constructors stand for them. -/
inductive PortWord where
  /-- `cmd_op[2:0]` with `cmd_valid` at 1. -/
  | cmd (op : BitVec 3)
  /-- `req_kind`, `req_reg`, `req_data` with `req_valid` at 1. -/
  | request (kind : BitVec 2) (reg : Byte) (data : Word)
  /-- A pulse on `ms_strobe`. -/
  | strobePulse
  /-- The timer's event. -/
  | tickEvent
  /-- FORMAT is asked for COUNT's digits. -/
  | formatCount
  /-- The encoder ROM's index. -/
  | romIndex (d : Nibble)
  /-- The multiplexer's position. -/
  | position (i : BitVec 2)
deriving DecidableEq, Repr

end Sys2Proof
end

