-- ==== Sys2Proof/WellFormed.lean ====
section
/-! DEFINITION. Which operations the spec gives a meaning. -/

namespace Sys2Proof

/-- Every operand value has a meaning but for a register offset outside REG_MAP, to which "the spec gives no meaning"
(20_memory.md R57, 92_eei_decisions.md D28). A ROM index above 9 has one: it raises InvalidDigit (30_encoding.md R79). -/
def Instr.wf : Instr → Bool
  | .writeReg16 reg _ => Machine.inRegMap reg
  | .hostOpen | .hostStart | .hostStop | .hostClose => true
  | .reserved000 | .reserved101 | .reserved110 | .reserved111 => true
  | .writeCmdSysSetup _ | .writeCmdDisplaySetup _ | .writeCmdDimming _ => true
  | .openDevice | .closeDevice | .tick | .strobe | .format | .encode _ | .mux _ => true

end Sys2Proof
end

