-- ==== Sys2Proof/Decode.lean ====
section
/-! DEFINITION. Reading an operation from what is on a port, and the other way (30_encoding.md). -/

namespace Sys2Proof

/-- Why a port word is no operation. Each rejects what I2CSEQ never emits and 30_encoding.md R82 gives no meaning. -/
inductive DecodeError where
  /-- A WRITE_BYTES byte whose high nibble is not 0x2, 0x8 or 0xE (R73, R82). -/
  | commandOpcode
  /-- A WRITE_BYTES request whose `req_data` is not 0 (R81). -/
  | commandData
  /-- A WRITE_REG_WORD request to an offset outside REG_MAP (R57, R82). -/
  | registerOffset
  /-- An OPEN_DEVICE request whose fields are not {0, CHIP_ADDR} and 0 (R77). -/
  | openFields
  /-- A CLOSE_DEVICE request whose fields are not 0 (R77, R124). -/
  | closeFields
deriving DecidableEq, Repr

/-- `b[7:4]` of a command byte (R73). -/
def opcodeOf (b : Byte) : Nibble := b.extractLsb' 4 4

/-- `b[3:0]` of a command byte (R73). -/
def parameterOf (b : Byte) : Nibble := b.extractLsb' 0 4

/-- Format H (R71, R72). -/
def decodeCommand (op : BitVec 3) : Instr :=
  if op = 0b001#3 then .hostOpen
  else if op = 0b010#3 then .hostStart
  else if op = 0b011#3 then .hostStop
  else if op = 0b100#3 then .hostClose
  else if op = 0b000#3 then .reserved000
  else if op = 0b101#3 then .reserved101
  else if op = 0b110#3 then .reserved110
  else .reserved111

/-- Format C8 (R73). -/
def decodeCommandByte (b : Byte) : Except DecodeError Instr :=
  if opcodeOf b = 0x2#4 then .ok (.writeCmdSysSetup (parameterOf b))
  else if opcodeOf b = 0x8#4 then .ok (.writeCmdDisplaySetup (parameterOf b))
  else if opcodeOf b = 0xE#4 then .ok (.writeCmdDimming (parameterOf b))
  else .error .commandOpcode

/-- The request port (R75, R77, R81). -/
def decodeRequest (kind : BitVec 2) (reg : Byte) (data : Word) : Except DecodeError Instr :=
  if kind = 0#2 then
    if reg = Machine.chipAddr.setWidth 8 ∧ data = 0#16 then .ok .openDevice else .error .openFields
  else if kind = 1#2 then
    if data = 0#16 then decodeCommandByte reg else .error .commandData
  else if kind = 2#2 then
    if Machine.inRegMap reg then .ok (.writeReg16 reg data) else .error .registerOffset
  else
    if reg = 0#8 ∧ data = 0#16 then .ok .closeDevice else .error .closeFields

/-- The decoder: total on any port word. -/
def decode : PortWord → Except DecodeError Instr
  | .cmd op => .ok (decodeCommand op)
  | .request kind reg data => decodeRequest kind reg data
  | .strobePulse => .ok .strobe
  | .tickEvent => .ok .tick
  | .formatCount => .ok .format
  | .romIndex d => .ok (.encode d)
  | .position i => .ok (.mux i)

/-- The encoder (R71, R72, R73, R75, R77, R81). -/
def encode : Instr → PortWord
  | .hostOpen => .cmd 0b001#3
  | .hostStart => .cmd 0b010#3
  | .hostStop => .cmd 0b011#3
  | .hostClose => .cmd 0b100#3
  | .reserved000 => .cmd 0b000#3
  | .reserved101 => .cmd 0b101#3
  | .reserved110 => .cmd 0b110#3
  | .reserved111 => .cmd 0b111#3
  | .writeCmdSysSetup par => .request 1#2 (0x2#4 ++ par) 0#16
  | .writeCmdDisplaySetup par => .request 1#2 (0x8#4 ++ par) 0#16
  | .writeCmdDimming par => .request 1#2 (0xE#4 ++ par) 0#16
  | .writeReg16 reg value => .request 2#2 reg value
  | .openDevice => .request 0#2 0x70#8 0#16
  | .closeDevice => .request 3#2 0x00#8 0#16
  | .tick => .tickEvent
  | .strobe => .strobePulse
  | .format => .formatCount
  | .encode d => .romIndex d
  | .mux i => .position i

/-- The port word behind a word of spec/opcode_table.json. Up to 8 bits it is a command byte (format C8) when its high
nibble is an opcode of R73, else `cmd_op` (format H) when below 8. The table numbers `cmd_op` and `req_kind` both from
bit 0, so a kind alone reads as format H; a request port word is taken from more than 8 bits, `req_kind` in bits 1..0,
`req_reg` in bits 9..2, `req_data` in bits 25..10. DESIGN CHOICE, log 3. -/
def tablePortWord (nbits w : Nat) : Option PortWord :=
  if nbits = 0 then none
  else if nbits ≤ 8 then
    if 256 ≤ w then none
    else if w < 8 then some (.cmd (BitVec.ofNat 3 w))
    else some (.request 1#2 (BitVec.ofNat 8 w) 0#16)
  else if 2 ^ 26 ≤ w then none
  else some (.request (BitVec.ofNat 2 w) (BitVec.ofNat 8 (w / 4)) (BitVec.ofNat 16 (w / 1024)))

/-- The instruction the decoder reads from a word of the opcode table. -/
def decodeTableWord (nbits w : Nat) : Option Instr :=
  match tablePortWord nbits w with
  | none => none
  | some p =>
    match decode p with
    | .ok i => some i
    | .error _ => none

end Sys2Proof
end

