-- ==== Sys2Proof/Machine/State.lean ====
section
/-! DEFINITION. The state of I2CSEQ (10_state.md), of its ports (00_scope.md R5) and of the BUS agent's chip; the reset
state; the reasons a step can stop. -/

namespace Sys2Proof.Machine

/-- DSTATE (10_state.md R20). The codes 5, 6 and 7 are never held. -/
inductive DState where
  | uninit
  | ready
  | running
  | stopped
  | closed
deriving DecidableEq, Repr

/-- JOB (10_state.md R29): NONE, OPEN, CFG, TICK, PWRDN, CLOSE, HALT. The code 7 is never held. -/
inductive Job where
  | idle
  | opening
  | cfg
  | tick
  | pwrdn
  | closing
  | halt
deriving DecidableEq, Repr

/-- HOST_PEND (10_state.md R33): none, OPEN, START, CLOSE. No other code is held. -/
inductive HostPend where
  | nothing
  | opening
  | starting
  | closing
deriving DecidableEq, Repr

/-- The codes of 60_exceptions.md R200, used on `rsp_code`, `evt_code` and in ERR. 9 to 15 are never produced. -/
inductive Code where
  | ok
  | busUnavailable
  | configWriteFailed
  | displayWriteFailed
  | invalidDigit
  | valueOutOfRange
  | closeFailed
  | shutdownWriteFailed
  | illegalOperation
deriving DecidableEq, Repr

/-- `req_kind`, `req_reg` and `req_data` (00_scope.md R5, 30_encoding.md R81). -/
structure Request where
  kind : BitVec 2
  reg : Byte
  data : Word
deriving DecidableEq, Repr

/-- The latches DIG[0..3], most significant first (10_state.md R24). -/
structure Digits where
  d0 : Nibble
  d1 : Nibble
  d2 : Nibble
  d3 : Nibble
deriving DecidableEq, Repr

/-- What FORMAT, ENCODE or MUX returns (40_datapath.md R100, R102, R106). -/
inductive DataOut where
  | digits (d : Digits)
  | word (w : Word)
  | regWord (reg : Byte) (w : Word)
deriving DecidableEq, Repr

/-- One line of a run's history: the trace, response and event lines of 30_encoding.md R83, BUS's answers and resets. -/
inductive Obs where
  | issued (r : Request)
  | answered (ok : Bool)
  | rsp (c : Code)
  | evt (c : Code)
  | rst
deriving DecidableEq, Repr

/-- The display RAM: offset and byte, offsets strictly rising, an unlisted offset reading as no value (log 13). -/
abbrev Memory := List Host.Cell

/-- The HT16K33 as the BUS agent holds it (10_state.md R44, 20_memory.md R53): the parameter nibbles of its three
commands, and its display RAM. -/
structure Chip where
  osc : Nibble
  disp : Nibble
  dim : Nibble
  ram : Memory
deriving DecidableEq, Repr

/-- The state. The registers are those of 10_state.md's summary table, in its order. -/
structure State where
  /-- The parameters, SEG_ROM among them; no step writes them (R39, R44). -/
  cfg : Config
  /-- DSTATE, R20. -/
  dstate : DState
  /-- DEAD, R21. -/
  dead : Bool
  /-- CONN, R22. -/
  conn : Bool
  /-- COUNT, R23, two's complement. -/
  count : Word
  /-- LOOP, R26. -/
  loop : Bool
  /-- CANCEL, R27. -/
  cancel : Bool
  /-- TARM, R28. -/
  tarm : Bool
  /-- TMR, R28. -/
  tmr : BitVec 7
  /-- JOB, R29. -/
  job : Job
  /-- STEP, R30. -/
  step : BitVec 3
  /-- REQ_OUT, R31, with the request it holds stable on the port: REQ_OUT is 1 exactly when this is some request. -/
  reqOut : Option Request
  /-- PWRDN_PEND, R32. -/
  pwrdnPend : Bool
  /-- HOST_PEND, R33. -/
  hostPend : HostPend
  /-- DIG[0..3], R24. -/
  dig : Digits
  /-- FATAL, R34. -/
  fatal : Bool
  /-- ERR, R35. -/
  err : Code
  /-- ERR_STEP, R37. -/
  errStep : BitVec 3
  /-- DEFECT, R36. -/
  defect : Bool
  /-- WARN_SD, R38. -/
  warnSd : Bool
  /-- WARN_CL, R38. -/
  warnCl : Bool
  /-- The response port in this step, R151. -/
  rsp : Option Code
  /-- The event port in this step, R221. -/
  evt : Option Code
  /-- The model's own: what FORMAT, ENCODE or MUX returned in this step (log 11). -/
  dout : Option DataOut
  /-- The HT16K33, state of the BUS agent (log 13). -/
  chip : Chip
  /-- The run's history, newest first (60_exceptions.md R221, log 12). -/
  hist : List Obs
  /-- The model's own: the moves the agents make next, oldest first (log 1). -/
  moves : List Move
  /-- The model's own: how many free values have been drawn (log 14). -/
  draws : Nat
deriving DecidableEq, Repr

/-- Reasons a step faults. No state that meets Safety's invariant reaches one. -/
inductive Fault where
  /-- Raised by WRITE_CMD, WRITE_REG16 and CLOSE_DEVICE with CONN = 0, against their "requires CONN = 1" (41_bus_ops.md
  R121, R122, R124). Safe: the model stops where the spec gives nothing (log 7). -/
  | connectionMissing
  /-- Raised by OPEN_DEVICE with CONN = 1, against its "requires CONN = 0" (41_bus_ops.md R123). Safe (log 7). -/
  | connectionHeld
deriving DecidableEq, Repr

/-- Reasons a step is refused. -/
inductive Refusal where
  /-- An operation that has no meaning yet: raised by `exec` only. Safe. -/
  | notModelled (mnemonic : String)
  /-- Raised by `step` when the configuration is not well formed (00_scope.md R15). Safe. -/
  | configNotWellFormed
  /-- Raised by WRITE_REG16 at an offset outside REG_MAP (20_memory.md R57, 92_eei_decisions.md D28). Safe. -/
  | registerOffsetOutsideMap (reg : Byte)
  /-- Raised by `step` for a port word that decodes to no operation (30_encoding.md R82). Safe. -/
  | undecodable (e : DecodeError)
deriving DecidableEq, Repr

/-- What a meaning answers. -/
abbrev Outcome := Host.Outcome State Fault Refusal

/-- The HT16K33 before any transaction: oscillator off, display off, full brightness, PRESUMED from the family, and no
known byte of display RAM (log 13). -/
def Chip.powerOn : Chip := { osc := 0x0#4, disp := 0x0#4, dim := 0xF#4, ram := [] }

/-- The state after reset (70_reset_and_hazards.md R231), with the default parameters. -/
def State.reset : State where
  cfg := defaultConfig
  dstate := .uninit
  dead := false
  conn := false
  count := BitVec.ofInt 16 defaultConfig.countInit
  loop := false
  cancel := false
  tarm := false
  tmr := 0#7
  job := .idle
  step := 0#3
  reqOut := none
  pwrdnPend := false
  hostPend := .nothing
  dig := { d0 := 0#4, d1 := 0#4, d2 := 0#4, d3 := 0#4 }
  fatal := false
  err := .ok
  errStep := 0#3
  defect := false
  warnSd := false
  warnCl := false
  rsp := none
  evt := none
  dout := none
  chip := Chip.powerOn
  hist := []
  moves := []
  draws := 0

end Sys2Proof.Machine
end

