-- ==== Sys2Proof/Machine/Flags.lean ====
section
/-! DEFINITION. Every flag and output that is computed from the state: port codes, TICK_DUE, the sign of COUNT, `status`,
`count`, `cmd_ready`, `errinfo`. -/

namespace Sys2Proof.Machine

/-- DSTATE's encoding (10_state.md R20). -/
def DState.code : DState → BitVec 3
  | .uninit => 0#3
  | .ready => 1#3
  | .running => 2#3
  | .stopped => 3#3
  | .closed => 4#3

/-- JOB's encoding (10_state.md R29). -/
def Job.code : Job → BitVec 3
  | .idle => 0#3
  | .opening => 1#3
  | .cfg => 2#3
  | .tick => 3#3
  | .pwrdn => 4#3
  | .closing => 5#3
  | .halt => 6#3

/-- HOST_PEND's encoding: the op code of the command (10_state.md R33, 30_encoding.md R71). -/
def HostPend.code : HostPend → BitVec 3
  | .nothing => 0b000#3
  | .opening => 0b001#3
  | .starting => 0b010#3
  | .closing => 0b100#3

/-- The 4-bit codes (60_exceptions.md R200). -/
def Code.value : Code → BitVec 4
  | .ok => 0#4
  | .busUnavailable => 1#4
  | .configWriteFailed => 2#4
  | .displayWriteFailed => 3#4
  | .invalidDigit => 4#4
  | .valueOutOfRange => 5#4
  | .closeFailed => 6#4
  | .shutdownWriteFailed => 7#4
  | .illegalOperation => 8#4

/-- `cmd_ready` (10_state.md R43). -/
def State.cmdReady (s : State) : Bool :=
  s.hostPend == .nothing && s.job != .halt

/-- TICK_DUE (10_state.md R28, 43_tick_timer.md R172). -/
def State.tickDue (s : State) : Bool :=
  s.loop && s.tarm && s.tmr == 0#7

/-- `COUNT < 0`, which reads bit 15 (43_tick_timer.md R179). -/
def countNegative (c : Word) : Bool := c.msb

/-- BUSY (10_state.md R41). -/
def State.busy (s : State) : Bool :=
  s.job != .idle || s.pwrdnPend || s.hostPend != .nothing

/-- The `status` output (10_state.md R41). -/
def State.status (s : State) : BitVec 16 :=
  BitVec.ofBool s.busy ++ BitVec.ofBool s.defect ++ BitVec.ofBool s.warnCl ++ BitVec.ofBool s.warnSd ++
    s.err.value ++ BitVec.ofBool s.dead ++ BitVec.ofBool s.conn ++ BitVec.ofBool s.fatal ++
    BitVec.ofBool s.cancel ++ BitVec.ofBool s.loop ++ s.dstate.code

/-- The `count` output (10_state.md R42). -/
def State.countOut (s : State) : Word := s.count

/-- The `errinfo` output (10_state.md R37). -/
def State.errinfo (s : State) : BitVec 3 := s.errStep

/-- `req_valid` (10_state.md R31, 41_bus_ops.md R120). -/
def State.reqValid (s : State) : Bool := s.reqOut.isSome

/-- SEQ may take a step: no request is outstanding (41_bus_ops.md R126) and it is not halted (60_exceptions.md R204). -/
def State.seqFree (s : State) : Bool :=
  s.reqOut.isNone && s.job != .halt

end Sys2Proof.Machine
end

