-- ==== Sys2Proof/Machine/Operands.lean ====
section
/-! DEFINITION. Where operands come from: FORMAT, the encoder ROM, the multiplexer (40_datapath.md), the constant command
bytes (30_encoding.md R80), the request each operation presents (30_encoding.md R81), and the request the current job names. -/

namespace Sys2Proof.Machine

/-! ### Datapath -/

/-- FORMAT (40_datapath.md R100). -/
def formatDigits (n : Int) : Except Code Digits :=
  if n < 0 ∨ 9999 < n then .error .valueOutOfRange
  else .ok
    { d0 := BitVec.ofNat 4 (n.toNat / 1000 % 10)
      d1 := BitVec.ofNat 4 (n.toNat / 100 % 10)
      d2 := BitVec.ofNat 4 (n.toNat / 10 % 10)
      d3 := BitVec.ofNat 4 (n.toNat % 10) }

/-- ENCODE: a read of the encoder ROM (40_datapath.md R102, 20_memory.md R51). -/
def encodeDigit (rom : SegRom) (d : Nibble) : Except Code Word :=
  if d = 0#4 then .ok rom.w0
  else if d = 1#4 then .ok rom.w1
  else if d = 2#4 then .ok rom.w2
  else if d = 3#4 then .ok rom.w3
  else if d = 4#4 then .ok rom.w4
  else if d = 5#4 then .ok rom.w5
  else if d = 6#4 then .ok rom.w6
  else if d = 7#4 then .ok rom.w7
  else if d = 8#4 then .ok rom.w8
  else if d = 9#4 then .ok rom.w9
  else .error .invalidDigit

/-- DIG[i]. -/
def Digits.at (d : Digits) (i : BitVec 2) : Nibble :=
  if i = 0#2 then d.d0 else if i = 1#2 then d.d1 else if i = 2#2 then d.d2 else d.d3

/-- MUX (40_datapath.md R106). -/
def muxDigit (rom : SegRom) (dig : Digits) (i : BitVec 2) : Except Code (Byte × Word) :=
  match encodeDigit rom (dig.at i) with
  | .ok w => .ok (regMap i, w)
  | .error c => .error c

/-- The decrement: `(COUNT + 0xFFFF) mod 2^16` (43_tick_timer.md R180). -/
def decrementCount (c : Word) : Word := c + 0xFFFF#16

/-! ### Command bytes -/

/-- `b = (opc << 4) | par` (30_encoding.md R73). -/
def commandByte (opc par : Nibble) : Byte := (opc.setWidth 8 <<< 4) ||| par.setWidth 8

/-- OSC_ON_BYTE (00_scope.md R13). -/
def oscOnByte : Byte := 0x20#8 ||| 0x1#8

/-- DISP_ON_BYTE (00_scope.md R13). -/
def dispOnByte (c : Config) : Byte := 0x80#8 ||| (BitVec.ofNat 8 c.blink <<< 1) ||| 0x1#8

/-- DIM_BYTE (00_scope.md R13). -/
def dimByte (c : Config) : Byte := 0xE0#8 ||| BitVec.ofNat 8 c.brightness

/-- OSC_OFF_BYTE (00_scope.md R13). -/
def oscOffByte : Byte := 0x20#8 ||| 0x0#8

/-- DISP_OFF_BYTE (00_scope.md R13). -/
def dispOffByte : Byte := 0x80#8 ||| 0x0#8

/-- CFG_BYTE[k] (42_driver_ops.md R145). -/
def cfgByte (c : Config) (k : BitVec 3) : Option Byte :=
  if k = 0#3 then some oscOnByte
  else if k = 1#3 then some (dispOnByte c)
  else if k = 2#3 then some (dimByte c)
  else none

/-- PWRDN_BYTE[k] (42_driver_ops.md R147). -/
def pwrdnByte (k : BitVec 3) : Option Byte :=
  if k = 0#3 then some oscOffByte else if k = 1#3 then some dispOffByte else none

/-! ### Requests -/

/-- OPEN_DEVICE's request (41_bus_ops.md R123). -/
def openRequest : Request := { kind := 0#2, reg := chipAddr.setWidth 8, data := 0#16 }

/-- WRITE_CMD's request (41_bus_ops.md R121). -/
def cmdRequest (b : Byte) : Request := { kind := 1#2, reg := b, data := 0#16 }

/-- WRITE_REG16's request (41_bus_ops.md R122). -/
def regRequest (reg : Byte) (value : Word) : Request := { kind := 2#2, reg := reg, data := value }

/-- CLOSE_DEVICE's request (41_bus_ops.md R124). -/
def closeRequest : Request := { kind := 3#2, reg := 0x00#8, data := 0#16 }

/-- The name argument of an OPEN_DEVICE request, shared with the transport and not carried on a port (30_encoding.md R77). -/
def Request.busName (r : Request) : Option String := if r.kind = 0#2 then some Config.busName else none

/-- The payload bytes in transmission order (30_encoding.md R75, 20_memory.md R55): none for a connection request. -/
def Request.payload (r : Request) : List Byte :=
  if r.kind = 1#2 then [r.reg]
  else if r.kind = 2#2 then [r.reg, r.data.extractLsb' 0 8, r.data.extractLsb' 8 8]
  else []

/-- The payload as the chip may have taken it when the transaction failed: the same register or command, with values the
spec does not give (60_exceptions.md R211), drawn from number n on. Log 14. -/
def Request.failedPayload (r : Request) (n : Nat) : List Byte :=
  if r.kind = 1#2 then [commandByte (opcodeOf r.reg) (Config.freeNibble n)]
  else if r.kind = 2#2 then [r.reg, Config.freeByte n, Config.freeByte (n + 1)]
  else []

/-- The bytes between start and stop condition on the I2C bus: the address byte {CHIP_ADDR, 0}, then the payload
(41_bus_ops.md R127, informative). Connection requests put nothing on the wire. -/
def Request.frame (r : Request) : List Byte :=
  if r.kind = 1#2 ∨ r.kind = 2#2 then (chipAddr ++ 0#1) :: r.payload else []

/-- CONN as the operation requires it (41_bus_ops.md R121 to R124). -/
def Request.connFault (r : Request) (conn : Bool) : Option Fault :=
  if r.kind = 0#2 then (if conn then some .connectionHeld else none)
  else (if conn then none else some .connectionMissing)

/-- The digit position of a TICK job's STEP: `STEP - 1` at steps 1 to 4 (43_tick_timer.md R176). -/
def tickPosition (k : BitVec 3) : Option (BitVec 2) :=
  if k = 1#3 then some 0#2
  else if k = 2#3 then some 1#2
  else if k = 3#3 then some 2#2
  else if k = 4#3 then some 3#2
  else none

/-- The transaction that the current job's rule names at the current STEP (41_bus_ops.md R120; 42_driver_ops.md R143,
R145, R147, R149; 43_tick_timer.md R176). -/
def State.namedRequest (s : State) : Option Request :=
  match s.job with
  | .idle => none
  | .opening => if s.step = 0#3 then some openRequest else none
  | .cfg => (cfgByte s.cfg s.step).map cmdRequest
  | .tick =>
    match tickPosition s.step with
    | none => none
    | some i =>
      match muxDigit s.cfg.segRom s.dig i with
      | .ok rv => some (regRequest rv.1 rv.2)
      | .error _ => none
  | .pwrdn => (pwrdnByte s.step).map cmdRequest
  | .closing => if s.step = 0#3 then some closeRequest else none
  | .halt => none

end Sys2Proof.Machine
end

