-- ==== Sys2Proof/Machine/Ops.lean ====
section
/-! DEFINITION. The shared operations on State: display RAM, ports, raising an error, issuing a request, reset. -/

namespace Sys2Proof.Machine

/-! ### Display RAM -/

/-- The byte at an offset, if the model knows one. -/
def Memory.read : Memory → Nat → Option Byte
  | [], _ => none
  | (a, b) :: m, x => if a = x then some b else Memory.read m x

/-- Writes one byte, keeping the offsets strictly rising. -/
def Memory.write : Memory → Nat → Byte → Memory
  | [], x, v => [(x, v)]
  | (a, b) :: m, x, v =>
    if x < a then (x, v) :: (a, b) :: m
    else if x = a then (x, v) :: m
    else (a, b) :: Memory.write m x v

/-- The canonical form: offsets strictly rising, each inside the 16 bytes of 20_memory.md R53. An unlisted offset reads
as no value, which no entry equals. -/
def Memory.wf : Memory → Bool
  | [] => true
  | [(a, _)] => decide (a < 16)
  | (a, _) :: (b, v) :: m => decide (a < b) && Memory.wf ((b, v) :: m)

/-- Data bytes from an address pointer on, which advances after each byte (20_memory.md R56; the wrap at the top is
PRESUMED and not reached, log 13). -/
def Memory.writeFrom (m : Memory) (p : Nibble) : List Byte → Memory
  | [] => m
  | v :: vs => Memory.writeFrom (Memory.write m p.toNat v) (p + 1#4) vs

/-- The HT16K33 takes a payload: the first byte's high nibble says what it is (30_encoding.md R73, R76). -/
def Chip.take (c : Chip) : List Byte → Chip
  | [] => c
  | b :: vs =>
    if opcodeOf b = 0x0#4 then { c with ram := Memory.writeFrom c.ram (parameterOf b) vs }
    else if opcodeOf b = 0x2#4 then { c with osc := parameterOf b }
    else if opcodeOf b = 0x8#4 then { c with disp := parameterOf b }
    else if opcodeOf b = 0xE#4 then { c with dim := parameterOf b }
    else c

/-! ### Ports -/

/-- `respond(code)` (00_scope.md R16, 42_driver_ops.md R151). -/
def State.respond (s : State) (c : Code) : State :=
  { s with rsp := some c, hist := .rsp c :: s.hist }

/-- `emit(code)` (00_scope.md R16, 60_exceptions.md R221). -/
def State.emit (s : State) (c : Code) : State :=
  { s with evt := some c, hist := .evt c :: s.hist }

/-- The response that ends an OPEN, CFG or CLOSE job: it also clears HOST_PEND (42_driver_ops.md R151). -/
def State.respondJob (s : State) (c : Code) : State :=
  { s.respond c with job := .idle, hostPend := .nothing }

/-- FORMAT, ENCODE or MUX returns a value; no register is written (40_datapath.md R100, R102, R106). -/
def State.output (s : State) (d : DataOut) : State := { s with dout := some d }

/-- The next step begins: the one-step pulses of the last one are over (42_driver_ops.md R151, 60_exceptions.md R221). -/
def State.beginStep (s : State) : State := { s with rsp := none, evt := none, dout := none }

/-! ### Errors -/

/-- Raising an error: what each records and whether it emits an event (60_exceptions.md R200 to R208). `k` is the failing
step. A defect also halts SEQ (R204). There is no handler and no return (R213). -/
def State.raiseError (s : State) (c : Code) (k : BitVec 3) : State :=
  match c with
  | .ok => s
  | .busUnavailable => { s with dead := true, fatal := true, err := .busUnavailable }
  | .configWriteFailed => { s with fatal := true, err := .configWriteFailed, errStep := k }
  | .displayWriteFailed => { s with fatal := true, err := .displayWriteFailed, errStep := k }.emit .displayWriteFailed
  | .invalidDigit => { s with defect := true, fatal := true, err := .invalidDigit, job := .halt }.emit .invalidDigit
  | .valueOutOfRange =>
    { s with defect := true, fatal := true, err := .valueOutOfRange, job := .halt }.emit .valueOutOfRange
  | .closeFailed => { s with warnCl := true }.emit .closeFailed
  | .shutdownWriteFailed => { s with warnSd := true }.emit .shutdownWriteFailed
  | .illegalOperation => s

/-- `rst`: every register takes its reset value, an outstanding request is withdrawn, no transaction is issued and the
chip keeps its state (70_reset_and_hazards.md R230, R231, R233). It is the only way out of CLOSED and HALT. -/
def State.applyReset (s : State) : State :=
  { State.reset with
    cfg := s.cfg
    count := BitVec.ofInt 16 s.cfg.countInit
    chip := s.chip
    hist := .rst :: s.hist
    moves := s.moves
    draws := s.draws }

/-! ### Requests -/

/-- The issue of a transaction is enabled (41_bus_ops.md R120). -/
def State.issueEnabled (s : State) : Bool := s.reqOut.isNone && s.namedRequest.isSome

/-- The request goes on the port (41_bus_ops.md R120). -/
def State.present (s : State) (r : Request) : State :=
  { s with reqOut := some r, hist := .issued r :: s.hist }

/-- The issue step of a transaction (41_bus_ops.md R120 to R124). Where it is not enabled SEQ takes no step (log 6). -/
def State.issue (s : State) (r : Request) : Outcome :=
  if s.issueEnabled then
    match r.connFault s.conn with
    | some f => .fault f
    | none => .next (s.present r)
  else .next s

/-- The answer reaches the transport and the port: REQ_OUT falls, and the chip holds what the transaction carried, or an
unknown value where it failed (41_bus_ops.md R120, 20_memory.md R61, 60_exceptions.md R211). -/
def State.release (s : State) (r : Request) (ok : Bool) : State :=
  { s with
    reqOut := none
    chip := s.chip.take (if ok then r.payload else r.failedPayload s.draws)
    draws := if ok then s.draws else s.draws + r.payload.length
    hist := .answered ok :: s.hist }

end Sys2Proof.Machine
end

