-- ==== Sys2Proof/Machine/Bus.lean ====
section
/-! DEFINITION. The downstream transactions: the issue step of each (41_bus_ops.md R121 to R124), and BUS's answer with
the continuation that the current job's rule gives (R120; 42_driver_ops.md R143, R145, R147, R149; 43_tick_timer.md R176
to R178). -/

namespace Sys2Proof.Machine

/-! ### Issue -/

/-- WRITE_CMD with opcode 0x2 (41_bus_ops.md R121). -/
def execWriteCmdSysSetup (par : Nibble) (s : State) : Outcome := s.issue (cmdRequest (commandByte 0x2#4 par))

/-- WRITE_CMD with opcode 0x8 (41_bus_ops.md R121). -/
def execWriteCmdDisplaySetup (par : Nibble) (s : State) : Outcome := s.issue (cmdRequest (commandByte 0x8#4 par))

/-- WRITE_CMD with opcode 0xE (41_bus_ops.md R121). -/
def execWriteCmdDimming (par : Nibble) (s : State) : Outcome := s.issue (cmdRequest (commandByte 0xE#4 par))

/-- WRITE_REG16 (41_bus_ops.md R122). An offset outside REG_MAP is refused (20_memory.md R57, 92_eei_decisions.md D28). -/
def execWriteReg16 (reg : Byte) (value : Word) (s : State) : Outcome :=
  if inRegMap reg then s.issue (regRequest reg value) else .refused (.registerOffsetOutsideMap reg)

/-- OPEN_DEVICE (41_bus_ops.md R123). -/
def execOpenDevice (s : State) : Outcome := s.issue openRequest

/-- CLOSE_DEVICE (41_bus_ops.md R124). -/
def execCloseDevice (s : State) : Outcome := s.issue closeRequest

/-! ### Answer -/

/-- OPEN job, STEP 0 (42_driver_ops.md R143). -/
def State.openAnswered (s : State) (ok : Bool) : State :=
  if ok then { s with conn := true, dstate := .ready }.respondJob .ok
  else (s.raiseError .busUnavailable s.step).respondJob .busUnavailable

/-- CFG job (42_driver_ops.md R145). -/
def State.cfgAnswered (s : State) (ok : Bool) : State :=
  if ok then
    if s.step = 2#3 then
      { s with
        dstate := .running
        loop := true
        cancel := false
        tarm := true
        tmr := firstTickDelayMs }.respondJob .ok
    else { s with step := s.step + 1#3 }
  else (s.raiseError .configWriteFailed s.step).respondJob .configWriteFailed

/-- End of tick: decrement and reschedule (43_tick_timer.md R178). -/
def State.endTick (s : State) : State :=
  if s.cancel then { s with count := decrementCount s.count, loop := false, job := .idle }
  else { s with count := decrementCount s.count, tarm := true, tmr := tickDelayMs, job := .idle }

/-- TICK job, steps 1 to 4 (43_tick_timer.md R176, R177, R178). -/
def State.tickAnswered (s : State) (ok : Bool) : State :=
  if ok then
    if s.step = 4#3 then s.endTick else { s with step := s.step + 1#3 }
  else { s.raiseError .displayWriteFailed s.step with loop := false, job := .idle }

/-- PWRDN job (42_driver_ops.md R147): both writes go out whatever the first one's result. -/
def State.pwrdnAnswered (s : State) (ok : Bool) : State :=
  let s' := if ok then s else s.raiseError .shutdownWriteFailed s.step
  if s.step = 0#3 then { s' with step := 1#3 } else { s' with job := .idle }

/-- CLOSE job, STEP 0 (42_driver_ops.md R149). -/
def State.closeAnswered (s : State) (ok : Bool) : State :=
  let s' := if ok then s else s.raiseError .closeFailed s.step
  { s' with conn := false, dstate := .closed }.respondJob .ok

/-- The continuation the current job's rule gives for `BusResult`. -/
def State.continueJob (s : State) (ok : Bool) : State :=
  match s.job with
  | .opening => s.openAnswered ok
  | .cfg => s.cfgAnswered ok
  | .tick => s.tickAnswered ok
  | .pwrdn => s.pwrdnAnswered ok
  | .closing => s.closeAnswered ok
  | .idle | .halt => s

/-- BUS answers (41_bus_ops.md R120). An answer with no request outstanding has no effect. A request that the current job
does not name has no continuation: it is withdrawn only, which no state of Safety's invariant meets (log 17). -/
def State.busAnswer (s : State) (ok : Bool) : State :=
  match s.reqOut with
  | none => s
  | some r => if s.namedRequest.isSome then (s.release r ok).continueJob ok else s.release r ok

end Sys2Proof.Machine
end

