-- ==== Sys2Proof/Machine/Datapath.lean ====
section
/-! DEFINITION. FORMAT, ENCODE and MUX as operations (40_datapath.md): each returns its value on the model's result wires
and writes no register; an error is the defect of 60_exceptions.md R204. Where SEQ takes no step they have no effect
(log 11). -/

namespace Sys2Proof.Machine

/-- A datapath operation's result. -/
def State.returnValue (s : State) (r : Except Code DataOut) : Outcome :=
  if s.seqFree then
    match r with
    | .ok d => .next (s.output d)
    | .error c => .next (s.raiseError c s.step)
  else .next s

/-- FORMAT of COUNT (40_datapath.md R100). -/
def execFormat (s : State) : Outcome := s.returnValue ((formatDigits s.count.toInt).map .digits)

/-- ENCODE (40_datapath.md R102). -/
def execEncode (d : Nibble) (s : State) : Outcome := s.returnValue ((encodeDigit s.cfg.segRom d).map .word)

/-- MUX (40_datapath.md R106). -/
def execMux (i : BitVec 2) (s : State) : Outcome :=
  s.returnValue ((muxDigit s.cfg.segRom s.dig i).map fun rv => .regWord rv.1 rv.2)

end Sys2Proof.Machine
end

