-- ==== Sys2Proof/Machine/HostCmd.lean ====
section
/-! DEFINITION. The host commands: acceptance, dispatch and the accept rules (42_driver_ops.md R140 to R142, R144, R146,
R148; 30_encoding.md R72). -/

namespace Sys2Proof.Machine

/-- The columns of the dispatch table (42_driver_ops.md R141). -/
inductive Command where
  | opening
  | starting
  | stopping
  | closing
  | reserved
deriving DecidableEq, Repr

/-- The entries of the dispatch table. -/
inductive Action where
  /-- "accept": the command is pending until its job's response. -/
  | accept (p : HostPend)
  /-- "no-op": `respond(OK)` and nothing else. -/
  | noop
  /-- "rule R146". -/
  | stop
  /-- "illegal": `respond(ILLEGAL_OPERATION)` and nothing else. -/
  | illegal
deriving DecidableEq, Repr

/-- The dispatch table, its rows tested top to bottom (42_driver_ops.md R141). -/
def State.action (s : State) (c : Command) : Action :=
  if s.dstate = .closed then .illegal
  else if s.dead then
    match c with
    | .stopping => .noop
    | .opening | .starting | .closing | .reserved => .illegal
  else
    match s.dstate, c with
    | .uninit, .opening => .accept .opening
    | .uninit, .stopping => .noop
    | .ready, .starting => if s.fatal then .illegal else .accept .starting
    | .ready, .stopping => .noop
    | .ready, .closing => .accept .closing
    | .running, .stopping => .stop
    | .stopped, .stopping => .noop
    | .stopped, .closing => .accept .closing
    | _, _ => .illegal

/-- STOP accepted in RUNNING (42_driver_ops.md R146). -/
def State.acceptStop (s : State) : State :=
  { s with
    cancel := true
    tarm := false
    tmr := 0#7
    loop := if s.job = Job.tick then s.loop else false
    dstate := .stopped
    pwrdnPend := true }.respond .ok

/-- A command presented on the port: accepted when `cmd_ready` is 1, else without effect (42_driver_ops.md R140). -/
def State.command (s : State) (c : Command) : State :=
  if s.cmdReady then
    match s.action c with
    | .accept p => { s with hostPend := p }
    | .noop => s.respond .ok
    | .stop => s.acceptStop
    | .illegal => s.respond .illegalOperation
  else s

/-- OPEN (42_driver_ops.md R142). -/
def execHostOpen (s : State) : Outcome := .next (s.command .opening)

/-- START (42_driver_ops.md R144). -/
def execHostStart (s : State) : Outcome := .next (s.command .starting)

/-- STOP (42_driver_ops.md R146). -/
def execHostStop (s : State) : Outcome := .next (s.command .stopping)

/-- CLOSE (42_driver_ops.md R148). -/
def execHostClose (s : State) : Outcome := .next (s.command .closing)

/-- The reserved op 0b000 (30_encoding.md R72). -/
def execReserved000 (s : State) : Outcome := .next (s.command .reserved)

/-- The reserved op 0b101 (30_encoding.md R72). -/
def execReserved101 (s : State) : Outcome := .next (s.command .reserved)

/-- The reserved op 0b110 (30_encoding.md R72). -/
def execReserved110 (s : State) : Outcome := .next (s.command .reserved)

/-- The reserved op 0b111 (30_encoding.md R72). -/
def execReserved111 (s : State) : Outcome := .next (s.command .reserved)

end Sys2Proof.Machine
end

