-- ==== Sys2Proof/Machine/Tick.lean ====
section
/-! DEFINITION. The timer and SEQ's steps of the TICK job (43_tick_timer.md R171, R174 to R176). -/

namespace Sys2Proof.Machine

/-- STROBE (43_tick_timer.md R171). -/
def execStrobe (s : State) : Outcome :=
  if s.tarm && s.tmr != 0#7 then .next { s with tmr := s.tmr - 1#7 } else .next s

/-- A tick may start (42_driver_ops.md R150, 43_tick_timer.md R174). -/
def State.tickMayStart (s : State) : Bool :=
  s.job == .idle && !s.pwrdnPend && s.hostPend == .nothing && s.tickDue

/-- TICK start (43_tick_timer.md R174). -/
def State.startTick (s : State) : State := { s with tarm := false, job := .tick, step := 0#3 }

/-- TICK step 0, the top-of-tick check (43_tick_timer.md R175). -/
def State.tickTop (s : State) : State :=
  if s.cancel then { s with loop := false, job := .idle }
  else if countNegative s.count then { s with loop := false, job := .idle }
  else
    match formatDigits s.count.toInt with
    | .ok d => { s with dig := d, step := 1#3 }
    | .error c => s.raiseError c s.step

/-- TICK: SEQ's step for the periodic refresh, whichever of its steps is next: the start, the check, or the issue of one of
the four writes (43_tick_timer.md R174, R175, R176). Where none is enabled SEQ takes no step. -/
def execTick (s : State) : Outcome :=
  if s.seqFree then
    if s.job = .tick then
      if s.step = 0#3 then .next s.tickTop
      else
        match tickPosition s.step with
        | none => .next s
        | some i =>
          match muxDigit s.cfg.segRom s.dig i with
          | .ok rv => s.issue (regRequest rv.1 rv.2)
          | .error c => .next (s.raiseError c s.step)
    else if s.tickMayStart then .next s.startTick
    else .next s
  else .next s

end Sys2Proof.Machine
end

