-- ==== Sys2Proof/Machine/Seq.lean ====
section
/-! DEFINITION. SEQ between operations: which operation it fetches from JOB and STEP, and how it picks its next job
(10_state.md R29, R30; 42_driver_ops.md R150). -/

namespace Sys2Proof.Machine

/-- SEQ starts a job. -/
def State.enterJob (s : State) (j : Job) : State := { s with job := j, step := 0#3 }

/-- Job selection when JOB = NONE, but for the start of a tick, which is the operation TICK (42_driver_ops.md R150). -/
def State.selectJob (s : State) : State :=
  if s.seqFree && s.job == .idle then
    if s.pwrdnPend then { s with pwrdnPend := false }.enterJob .pwrdn
    else
      match s.hostPend with
      | .opening => s.enterJob .opening
      | .starting => s.enterJob .cfg
      | .closing => s.enterJob .closing
      | .nothing => s
  else s

/-- A request on its port. -/
def Request.word (r : Request) : PortWord := .request r.kind r.reg r.data

/-- The operation SEQ's next step performs, read from JOB and STEP as a program counter (10_state.md R29): the named
request, or TICK where the TICK job issues none. `none`: SEQ's step is not an operation of the opcode table. -/
def State.seqFetch (s : State) : Option PortWord :=
  if s.seqFree then
    match s.namedRequest with
    | some r => some r.word
    | none => if s.job = .tick ∨ s.tickMayStart then some .tickEvent else none
  else none

/-- The operation a move makes. -/
def State.fetch (s : State) : Move → Option PortWord
  | .host op => some (.cmd op)
  | .strobe => some .strobePulse
  | .seq => s.seqFetch
  | .answer _ => none
  | .rst => none

/-- The effect of a move that is no operation of the opcode table. -/
def State.otherMove (s : State) : Move → State
  | .seq => s.selectJob
  | .answer ok => s.busAnswer ok
  | .rst => s.applyReset
  | .host _ => s
  | .strobe => s

/-- The next move and the state without it: the oldest listed one, or a free draw (log 1). -/
def State.nextMove (s : State) : Move :=
  match s.moves with
  | m :: _ => m
  | [] => Config.freeMove s.draws

/-- The state with its next move taken and the last step's pulses over. -/
def State.taken (s : State) : State :=
  match s.moves with
  | _ :: ms => { s with moves := ms }.beginStep
  | [] => { s with draws := s.draws + 1 }.beginStep

/-! ### Placing an operation where the next step runs it -/

/-- The state in which SEQ's next step issues WRITE_CMD of this byte: CFG or PWRDN at the step that names it, with the
parameter that gives the byte. A byte that no configuration emits (30_encoding.md R82) is placed nowhere. Log 2. -/
def State.placeCommandByte (s : State) (b : Byte) : State :=
  let cfgAt (k : BitVec 3) (c : Config) : State :=
    { s with
      cfg := c, dstate := .ready, conn := true, job := .cfg, step := k, hostPend := .starting, reqOut := none
      moves := .seq :: s.moves }
  let pwrdnAt (k : BitVec 3) : State :=
    { s with
      dstate := .stopped, conn := true, cancel := true, job := .pwrdn, step := k, reqOut := none
      moves := .seq :: s.moves }
  if b = oscOffByte then pwrdnAt 0#3
  else if b = dispOffByte then pwrdnAt 1#3
  else if b = oscOnByte then cfgAt 0#3 s.cfg
  else if opcodeOf b = 0x8#4 ∧ b.getLsbD 0 = true ∧ b.getLsbD 3 = false then
    cfgAt 1#3 { s.cfg with blink := (b.extractLsb' 1 2).toNat }
  else if opcodeOf b = 0xE#4 then cfgAt 2#3 { s.cfg with brightness := (parameterOf b).toNat }
  else s

/-- The state in which SEQ's next step issues this register write: TICK at the step of that offset, with a zero in its
digit latch and the value as SEG_ROM's word for 0. Log 2. -/
def State.placeRegWrite (s : State) (reg : Byte) (value : Word) : State :=
  if inRegMap reg then
    { s with
      cfg := { s.cfg with segRom := { s.cfg.segRom with w0 := value } }
      dstate := .running, conn := true, loop := true, job := .tick
      step := if reg = regMap 0#2 then 1#3 else if reg = regMap 1#2 then 2#3 else if reg = regMap 2#2 then 3#3 else 4#3
      dig := { d0 := 0#4, d1 := 0#4, d2 := 0#4, d3 := 0#4 }
      reqOut := none
      moves := .seq :: s.moves }
  else s

/-- The state whose next step fetches this port word. FORMAT, ENCODE and MUX happen only inside TICK's steps, so no state
fetches them by themselves. -/
def State.place (s : State) : PortWord → State
  | .cmd op => { s with moves := .host op :: s.moves }
  | .request kind reg data =>
    if kind = 0#2 then
      { s with
        dstate := .uninit, conn := false, job := .opening, step := 0#3, hostPend := .opening, reqOut := none
        moves := .seq :: s.moves }
    else if kind = 1#2 then s.placeCommandByte reg
    else if kind = 2#2 then s.placeRegWrite reg data
    else
      { s with
        dstate := .ready, conn := true, job := .closing, step := 0#3, hostPend := .closing, reqOut := none
        moves := .seq :: s.moves }
  | .strobePulse => { s with moves := .strobe :: s.moves }
  | .tickEvent =>
    { s with
      dstate := .running, conn := true, loop := true, tarm := true, tmr := 0#7, job := .idle, pwrdnPend := false
      hostPend := .nothing, reqOut := none, moves := .seq :: s.moves }
  | .formatCount | .romIndex _ | .position _ => s

end Sys2Proof.Machine
end

