-- ==== Sys2Proof/Machine/Dispatch.lean ====
section
/-! DEFINITION. One arm per operation. -/

namespace Sys2Proof.Machine

def exec (i : Instr) (s : State) : Host.Outcome State Fault Refusal :=
  match i with
  | .hostOpen => Sys2Proof.Machine.execHostOpen s
  | .hostStart => Sys2Proof.Machine.execHostStart s
  | .hostStop => Sys2Proof.Machine.execHostStop s
  | .hostClose => Sys2Proof.Machine.execHostClose s
  | .reserved000 => Sys2Proof.Machine.execReserved000 s
  | .reserved101 => Sys2Proof.Machine.execReserved101 s
  | .reserved110 => Sys2Proof.Machine.execReserved110 s
  | .reserved111 => Sys2Proof.Machine.execReserved111 s
  | .writeCmdSysSetup par => Sys2Proof.Machine.execWriteCmdSysSetup par s
  | .writeCmdDisplaySetup par => Sys2Proof.Machine.execWriteCmdDisplaySetup par s
  | .writeCmdDimming par => Sys2Proof.Machine.execWriteCmdDimming par s
  | .writeReg16 reg value => Sys2Proof.Machine.execWriteReg16 reg value s
  | .openDevice => Sys2Proof.Machine.execOpenDevice s
  | .closeDevice => Sys2Proof.Machine.execCloseDevice s
  | .tick => Sys2Proof.Machine.execTick s
  | .strobe => Sys2Proof.Machine.execStrobe s
  | .format => Sys2Proof.Machine.execFormat s
  | .encode d => Sys2Proof.Machine.execEncode d s
  | .mux p => Sys2Proof.Machine.execMux p s

end Sys2Proof.Machine
end

