-- ==== Sys2Proof/Machine/Agents.lean ====
section
/-! DEFINITION. One agent's move as a transition (00_scope.md R4). -/

namespace Sys2Proof.Machine

/-- The move of one agent: the operation it makes, decoded and executed, or its effect where it makes none. -/
def State.agentStep (s : State) (m : Move) : Outcome :=
  match s.fetch m with
  | some w =>
    match decode w with
    | .ok i => exec i s
    | .error e => .refused (.undecodable e)
  | none => .next (s.otherMove m)

end Sys2Proof.Machine
end

