-- ==== Sys2Proof/Machine/Step.lean ====
section
/-! DEFINITION. One step of the machine: the next move of one agent (00_scope.md R4). -/

namespace Sys2Proof.Machine

/-- One step. A configuration that is not well formed is given no meaning (00_scope.md R15). -/
def step (s : State) : Host.Outcome State Fault Refusal :=
  if s.cfg.wf then s.taken.agentStep s.nextMove else .refused .configNotWellFormed

/-- The state whose next step runs the operation of a word of spec/opcode_table.json (log 2, log 3). -/
def State.withFetchWord (s : State) (nbits w : Nat) : State :=
  match tablePortWord nbits w with
  | some p => s.place p
  | none => s

end Sys2Proof.Machine
end

