-- ==== Sys2Proof/Safety.lean ====
section
/-! DEFINITION. What counts as a safe run: the states a run may start in, the invariant of 10_state.md R45 with what makes
it inductive, faulted and final states, and what a run's history says (20_memory.md R63, R64; 43_tick_timer.md R181). -/

namespace Sys2Proof.Machine

/-! ### Faulted and final states -/

/-- FAULT(code): a defect has been raised (60_exceptions.md R204, log 8). -/
def State.faultCode (s : State) : Option Code := if s.defect then some s.err else none

/-- The block rests: SEQ idle, nothing pending, no tick scheduled, and not faulted. That a faulted state is never final is the
spec's (00_scope.md R16, 60_exceptions.md R204); which unfaulted states are final it leaves open, and BUSY = 0 with LOOP = 0
is a DESIGN CHOICE (log 22): UNINIT after reset is final, and so is RUNNING after the countdown's natural end. -/
def State.final (s : State) : Bool := !s.busy && !s.loop && s.faultCode.isNone

/-! ### The invariant of 10_state.md R45 -/

/-- CONN is held in READY, RUNNING and STOPPED. -/
abbrev State.Connected (s : State) : Prop := s.dstate = .ready ∨ s.dstate = .running ∨ s.dstate = .stopped

/-- R45, items 1 to 10, in order. -/
abbrev State.R45 (s : State) : Prop :=
  (s.conn = true ↔ s.Connected) ∧
  (s.loop = true → s.dstate = .running ∨ (s.dstate = .stopped ∧ s.job = .tick)) ∧
  (s.tarm = true → s.loop = true ∧ s.dstate = .running ∧ s.cancel = false ∧ s.job ≠ .tick) ∧
  (s.job = .tick → s.loop = true) ∧
  (s.pwrdnPend = true → s.dstate = .stopped) ∧
  (s.dead = true → s.dstate = .uninit ∧ s.conn = false ∧ s.fatal = true ∧ s.err = .busUnavailable) ∧
  (s.fatal = false → s.err = .ok) ∧
  (-1 ≤ s.count.toInt ∧ s.count.toInt ≤ s.cfg.countInit) ∧
  (s.reqOut.isSome = true → s.job ≠ .idle ∧ s.job ≠ .halt) ∧
  s.defect = false

/-- A pending command is one its state accepts, and a command's job runs for the pending command (R33, R150). -/
abbrev State.PendingInv (s : State) : Prop :=
  (s.hostPend = .opening → s.dstate = .uninit ∧ s.dead = false) ∧
  (s.hostPend = .starting → s.dstate = .ready ∧ s.fatal = false) ∧
  (s.hostPend = .closing → s.dstate = .ready ∨ s.dstate = .stopped) ∧
  (s.job = .opening → s.hostPend = .opening) ∧
  (s.job = .cfg → s.hostPend = .starting) ∧
  (s.job = .closing → s.hostPend = .closing ∧ s.pwrdnPend = false)

/-- What holds of the refresh loop, the power-down and the fatal errors beside R45. -/
abbrev State.LoopInv (s : State) : Prop :=
  (s.dstate = .stopped → s.cancel = true) ∧
  (s.dstate = .stopped → s.job = .tick → s.pwrdnPend = true) ∧
  (s.job = .pwrdn → s.dstate = .stopped ∧ s.pwrdnPend = false) ∧
  (s.dstate = .uninit → s.dead = false → s.fatal = false) ∧
  (s.fatal = true → s.loop = false) ∧
  s.job ≠ .halt

/-- STEP is in its job's range (R30), the request on the port is the one the job names (41_bus_ops.md R120), the latches
hold digits (R24), and a tick past its check displays a count that is not negative. -/
abbrev State.StepInv (s : State) : Prop :=
  (s.job = .opening → s.step = 0#3) ∧
  (s.job = .cfg → s.step.toNat ≤ 2) ∧
  (s.job = .tick → s.step.toNat ≤ 4) ∧
  (s.job = .pwrdn → s.step.toNat ≤ 1) ∧
  (s.job = .closing → s.step = 0#3) ∧
  (s.reqOut.isSome = true → s.reqOut = s.namedRequest) ∧
  (s.dig.d0.toNat ≤ 9 ∧ s.dig.d1.toNat ≤ 9 ∧ s.dig.d2.toNat ≤ 9 ∧ s.dig.d3.toNat ≤ 9) ∧
  (s.job = .tick → s.step ≠ 0#3 → 0 ≤ s.count.toInt)

/-- The display RAM keeps its form, whatever the transactions. -/
abbrev State.ChipInv (s : State) : Prop := Memory.wf s.chip.ram = true

/-- The invariant: a well-formed configuration, R45, and what makes R45 inductive. -/
structure State.Inv (s : State) : Prop where
  config : s.cfg.wf = true
  r45 : s.R45
  pending : s.PendingInv
  loop : s.LoopInv
  steps : s.StepInv
  chip : s.ChipInv

/-! ### Runs -/

/-- A state right after reset, for any parameters, inputs and chip (70_reset_and_hazards.md R231, R234). -/
def State.initial (cfg : Config) (chip : Chip) (moves : List Move) (draws : Nat) : State :=
  { State.reset with
    cfg := cfg
    count := BitVec.ofInt 16 cfg.countInit
    chip := chip
    moves := moves
    draws := draws }

/-- The states of every run under a well-formed configuration. -/
inductive Reachable : State → Prop where
  | start (cfg : Config) (chip : Chip) (moves : List Move) (draws : Nat) :
      cfg.wf = true → Memory.wf chip.ram = true → Reachable (State.initial cfg chip moves draws)
  | step (s t : State) : Reachable s → Machine.step s = .next t → Reachable t

/-! ### What a history says -/

/-- The requests issued, newest first. -/
def requestsOf : List Obs → List Request
  | [] => []
  | .issued r :: h => r :: requestsOf h
  | .answered _ :: h => requestsOf h
  | .rsp _ :: h => requestsOf h
  | .evt _ :: h => requestsOf h
  | .rst :: h => requestsOf h

/-- The part of a history since the last reset, newest first. -/
def sinceReset : List Obs → List Obs
  | [] => []
  | .rst :: _ => []
  | .issued r :: h => .issued r :: sinceReset h
  | .answered ok :: h => .answered ok :: sinceReset h
  | .rsp c :: h => .rsp c :: sinceReset h
  | .evt c :: h => .evt c :: sinceReset h

/-- The requests this instance has issued, newest first. -/
def State.requests (s : State) : List Request := requestsOf (sinceReset s.hist)

/-- The request a history leaves outstanding. -/
def outstanding : List Obs → Option Request
  | [] => none
  | .issued r :: _ => some r
  | .answered _ :: _ => none
  | .rst :: _ => none
  | .rsp _ :: h => outstanding h
  | .evt _ :: h => outstanding h

/-- Every request is issued with none outstanding, and every answer is to an outstanding one (20_memory.md R59, R63). -/
def serial : List Obs → Prop
  | [] => True
  | .issued _ :: h => outstanding h = none ∧ serial h
  | .answered _ :: h => outstanding h ≠ none ∧ serial h
  | .rsp _ :: h => serial h
  | .evt _ :: h => serial h
  | .rst :: h => serial h

/-- Where a request stands in an instance's life (20_memory.md R64): OPEN_DEVICE, the three configuration bytes, the
register writes, the two power-down bytes, CLOSE_DEVICE. -/
def Request.rank (r : Request) : Nat :=
  if r.kind = 0#2 then 0
  else if r.kind = 2#2 then 4
  else if r.kind = 3#2 then 7
  else if r.reg = oscOffByte then 5
  else if r.reg = dispOffByte then 6
  else if opcodeOf r.reg = 0x2#4 then 1
  else if opcodeOf r.reg = 0x8#4 then 2
  else 3

/-- A list of requests, newest first, in the order of 20_memory.md R64: each later one stands after each earlier one, and
only register writes repeat. -/
def inOrder (l : List Request) : Prop :=
  l.Pairwise fun newer older => older.rank < newer.rank ∨ (older.rank = 4 ∧ newer.rank = 4)

/-- No request issued so far stands at this rank or after it. -/
def State.rankBound (s : State) : Nat :=
  match s.job with
  | .opening => if s.reqOut.isSome then 1 else 0
  | .cfg => s.step.toNat + 1 + (if s.reqOut.isSome then 1 else 0)
  | .tick => 5
  | .pwrdn => s.step.toNat + 5 + (if s.reqOut.isSome then 1 else 0)
  | .closing => if s.reqOut.isSome then 8 else 7
  | .idle | .halt =>
    match s.dstate with
    | .uninit => if s.dead then 1 else 0
    | .ready => if s.fatal then 4 else 1
    | .running => 5
    | .stopped => if s.pwrdnPend then 5 else 7
    | .closed => 8

/-- The issue order of 20_memory.md R64, with what makes it inductive. -/
structure State.OrderInv (s : State) : Prop where
  inv : s.Inv
  ordered : inOrder s.requests
  bounded : ∀ r ∈ s.requests, r.rank < s.rankBound

/-- The register writes among some requests. -/
def registerWrites (l : List Request) : List Request := l.filter fun r => r.kind == 2#2

/-- The digit that the decimal representation of n has at a position, most significant first. -/
def decimalDigit (n : Nat) (i : Nat) : Nat :=
  if i = 0 then n / 1000 % 10 else if i = 1 then n / 100 % 10 else if i = 2 then n / 10 % 10 else n % 10

/-- SEG_ROM[d], 0 for a d that is no digit. -/
def segEntry (rom : SegRom) (d : Nat) : Word :=
  match encodeDigit rom (BitVec.ofNat 4 d) with
  | .ok w => w
  | .error _ => 0#16

/-- The k-th register write of a countdown from N, k from 0: tick k / 4 shows N - k / 4, and its write k mod 4 goes to
offset 2 * (k mod 4) with the segment code of that digit (43_tick_timer.md R181, R182). -/
def countdownWrite (rom : SegRom) (n k : Nat) : Request :=
  { kind := 2#2
    reg := BitVec.ofNat 8 (2 * (k % 4))
    data := segEntry rom (decimalDigit (n - k / 4) (k % 4)) }

/-- How many register writes have been issued: four for each tick that has ended well, and those of the tick in flight or
of the tick that failed. -/
def State.writesIssued (s : State) : Nat :=
  4 * (s.cfg.countInit - s.count.toInt).toNat +
    (if s.err = .displayWriteFailed then s.errStep.toNat
     else if s.job = .tick ∧ s.step ≠ 0#3 then s.step.toNat - 1 + (if s.reqOut.isSome then 1 else 0)
     else 0)

/-- The register writes of this instance are exactly the first ones of the countdown from COUNT_INIT (43_tick_timer.md
R181, R182), with what makes it inductive: past its check, a tick's latches hold the digits of COUNT. -/
structure State.CountdownInv (s : State) : Prop where
  inv : s.Inv
  latched : s.job = .tick → s.step ≠ 0#3 → formatDigits s.count.toInt = .ok s.dig
  trace : (registerWrites s.requests).reverse =
    (List.range s.writesIssued).map (countdownWrite s.cfg.segRom s.cfg.countInit.toNat)

end Sys2Proof.Machine
end

