-- ==== Sys2Proof/Certificates/Slice0/Obligations.lean ====
section
/-! DEFINITION. The statements about I2CSEQ, for the provers. A statement gives a next state in full, so that what it does
not mention is unchanged: every register, the display RAM, the history and the inputs. -/

open Sys2Proof Sys2Proof.Machine

/-! ### Encoding -/

/-- Words of each format, written out from 30_encoding.md R71, R73, R75, R77, R79, R81 and opcode_table.json. That
a bare table word of at most 8 bits is read as a command byte from 8 up and as `cmd_op` below 8 is the model's choice (log 3);
it is all that the two `decodeTableWord` clauses rest on beside R71 and R73. -/
def Obligations.WordsDecodeAsTheSpecWritesThem : Prop :=
  decode (.cmd 0b001#3) = .ok .hostOpen ∧
  decode (.cmd 0b011#3) = .ok .hostStop ∧
  decode (.cmd 0b101#3) = .ok .reserved101 ∧
  decode (.request 1#2 0x21#8 0#16) = .ok (.writeCmdSysSetup 0x1#4) ∧
  decode (.request 1#2 0x81#8 0#16) = .ok (.writeCmdDisplaySetup 0x1#4) ∧
  decode (.request 1#2 0xEF#8 0#16) = .ok (.writeCmdDimming 0xF#4) ∧
  decode (.request 2#2 0x04#8 0x0066#16) = .ok (.writeReg16 0x04#8 0x0066#16) ∧
  decode (.request 0#2 0x70#8 0#16) = .ok .openDevice ∧
  decode (.request 3#2 0x00#8 0#16) = .ok .closeDevice ∧
  decode (.romIndex 0x9#4) = .ok (.encode 0x9#4) ∧
  decodeTableWord 8 0x20 = some (.writeCmdSysSetup 0x0#4) ∧
  decodeTableWord 8 0x04 = some .hostClose

/-- No bit of an encoding is dropped: every operation that has a meaning, with every operand value, is read back from its
port word (30_encoding.md R71, R72, R73, R75, R77, R79, R81). -/
def Obligations.DecodeAfterEncodeIsTheOperation : Prop :=
  ∀ i : Instr, i.wf = true → decode (encode i) = .ok i

/-- Every port word has at most one meaning, and what decodes has one (30_encoding.md R71 to R82). -/
def Obligations.EncodeAfterDecodeIsTheWord : Prop :=
  ∀ (w : PortWord) (i : Instr), decode w = .ok i → i.wf = true ∧ encode i = w

/-- Of what 30_encoding.md R82 gives no meaning, two kinds are rejected by name: command bytes of other opcodes than 0x2, 0x8
and 0xE, and W16 offsets outside REG_MAP. A byte of one of the three opcodes decodes whatever its parameter, also one that
the block never emits. -/
def Obligations.OtherOpcodesAndOffsetsAreRejected : Prop :=
  (∀ b : Byte, opcodeOf b ≠ 0x2#4 → opcodeOf b ≠ 0x8#4 → opcodeOf b ≠ 0xE#4 →
    decode (.request 1#2 b 0#16) = .error .commandOpcode) ∧
  (∀ (r : Byte) (v : Word), r ≠ 0x00#8 → r ≠ 0x02#8 → r ≠ 0x04#8 → r ≠ 0x06#8 →
    decode (.request 2#2 r v) = .error .registerOffset)

/-! ### Outputs -/

/-- The layout of `status` (10_state.md R41), field by field, its reset value, and the codes its DSTATE and ERR fields show
(10_state.md R20, 60_exceptions.md R200). -/
def Obligations.StatusShowsItsFields : Prop :=
  (∀ s : State,
    s.status.extractLsb' 0 3 = s.dstate.code ∧ s.status.getLsbD 3 = s.loop ∧ s.status.getLsbD 4 = s.cancel ∧
    s.status.getLsbD 5 = s.fatal ∧ s.status.getLsbD 6 = s.conn ∧ s.status.getLsbD 7 = s.dead ∧
    s.status.extractLsb' 8 4 = s.err.value ∧ s.status.getLsbD 12 = s.warnSd ∧ s.status.getLsbD 13 = s.warnCl ∧
    s.status.getLsbD 14 = s.defect ∧
    (s.status.getLsbD 15 = true ↔ s.job ≠ .idle ∨ s.pwrdnPend = true ∨ s.hostPend ≠ .nothing)) ∧
  State.reset.status = 0x0000#16 ∧
  DState.uninit.code = 0#3 ∧ DState.ready.code = 1#3 ∧ DState.running.code = 2#3 ∧ DState.stopped.code = 3#3 ∧
  DState.closed.code = 4#3 ∧
  Code.ok.value = 0#4 ∧ Code.busUnavailable.value = 1#4 ∧ Code.configWriteFailed.value = 2#4 ∧
  Code.displayWriteFailed.value = 3#4 ∧ Code.invalidDigit.value = 4#4 ∧ Code.valueOutOfRange.value = 5#4 ∧
  Code.closeFailed.value = 6#4 ∧ Code.shutdownWriteFailed.value = 7#4 ∧ Code.illegalOperation.value = 8#4

/-! ### The step -/

/-- One step: the next move is the oldest listed one, or a free draw when none is listed; the pulses of the last step are
over; the step is that move's transition, `agentStep`, over which the statements about answers and job selection are made; and
where the move is an operation that decodes to i, the step is `exec i`. A host move is the command on the port,
a strobe is STROBE, and a move of SEQ is the request its job names. That the moves stand in the state is the model's
choice (log 1); that pulses last one step is R151 and R221, and when the step is over is log 10. -/
def Obligations.StepRunsTheDecodedOperation : Prop :=
  (∀ s : State, s.cfg.wf = true → step s = s.taken.agentStep s.nextMove) ∧
  (∀ (s : State) (w : PortWord) (i : Instr), s.cfg.wf = true → s.taken.fetch s.nextMove = some w →
    decode w = .ok i → step s = exec i s.taken) ∧
  (∀ (s : State) (m : Move) (ms : List Move), s.moves = m :: ms →
    s.nextMove = m ∧ s.taken = { s with moves := ms, rsp := none, evt := none, dout := none }) ∧
  (∀ s : State, s.moves = [] →
    s.nextMove = Config.freeMove s.draws ∧
    s.taken = { s with draws := s.draws + 1, rsp := none, evt := none, dout := none }) ∧
  (∀ (s : State) (op : BitVec 3), s.fetch (.host op) = some (.cmd op)) ∧
  (∀ s : State, s.fetch .strobe = some .strobePulse) ∧
  (∀ (s : State) (r : Request), s.reqOut = none → s.namedRequest = some r →
    s.fetch .seq = some (.request r.kind r.reg r.data))

/-- A configuration out of its ranges is given no meaning (00_scope.md R15). -/
def Obligations.IllFormedConfigurationIsRefused : Prop :=
  (∀ c : Config, c.wf = true ↔
    -1 ≤ c.countInit ∧ c.countInit ≤ 9999 ∧ c.brightness ≤ 15 ∧ c.blink ≤ 3) ∧
  (∀ s : State, s.cfg.wf = false → step s = .refused .configNotWellFormed)

/-- `rst` in any state sets every register to its reset value in one step, and the outputs are those of R231; it withdraws
an outstanding request, so that a later answer has no effect, issues nothing and leaves the chip alone
(70_reset_and_hazards.md R231, R233). That a withdrawn transaction leaves the chip exactly as it was is read from R233 by
inference (log 15), and `dout` is the model's own wire (log 11). What the model's other fields hold, the history beyond the
requests in it, the moves and the draws, is left open (log 1, log 12, log 14). -/
def Obligations.RstSetsEveryRegister : Prop :=
  ∀ s : State, s.cfg.wf = true → s.nextMove = .rst →
    ∃ t : State, step s = .next t ∧
      t =
        { cfg := s.cfg, dstate := .uninit, dead := false, conn := false, count := BitVec.ofInt 16 s.cfg.countInit
          loop := false, cancel := false, tarm := false, tmr := 0#7, job := .idle, step := 0#3, reqOut := none
          pwrdnPend := false, hostPend := .nothing, dig := { d0 := 0#4, d1 := 0#4, d2 := 0#4, d3 := 0#4 }
          fatal := false, err := .ok, errStep := 0#3, defect := false, warnSd := false, warnCl := false
          rsp := none, evt := none, dout := none, chip := s.chip
          hist := t.hist, moves := t.moves, draws := t.draws } ∧
      t.reqValid = false ∧ t.cmdReady = true ∧ t.status = 0x0000#16 ∧
      t.countOut = BitVec.ofInt 16 s.cfg.countInit ∧ t.errinfo = 0#3 ∧
      requestsOf t.hist = requestsOf s.hist ∧ (∀ ok : Bool, t.agentStep (.answer ok) = .next t)

/-! ### Host commands -/

/-- OPEN accepted (42_driver_ops.md R142). -/
def Obligations.OpenIsAcceptedInUninit : Prop :=
  ∀ s : State, s.cmdReady = true → s.dstate = .uninit → s.dead = false →
    exec .hostOpen s = .next { s with hostPend := .opening }

/-- START accepted (42_driver_ops.md R144). -/
def Obligations.StartIsAcceptedInReady : Prop :=
  ∀ s : State, s.cmdReady = true → s.dstate = .ready → s.dead = false → s.fatal = false →
    exec .hostStart s = .next { s with hostPend := .starting }

/-- CLOSE accepted (42_driver_ops.md R148). -/
def Obligations.CloseIsAcceptedInReadyAndStopped : Prop :=
  ∀ s : State, s.cmdReady = true → (s.dstate = .ready ∨ s.dstate = .stopped) → s.dead = false →
    exec .hostClose s = .next { s with hostPend := .closing }

/-- STOP in RUNNING cancels the scheduled tick, asks for the power-down and answers at once; a tick in flight keeps LOOP
(42_driver_ops.md R146). The history line is the model's (log 12). -/
def Obligations.StopInRunning : Prop :=
  ∀ s : State, s.cmdReady = true → s.dstate = .running → s.dead = false →
    exec .hostStop s = .next
      { s with
        cancel := true, tarm := false, tmr := 0#7, loop := (if s.job = Job.tick then s.loop else false)
        dstate := .stopped, pwrdnPend := true, rsp := some .ok, hist := .rsp .ok :: s.hist }

/-- STOP before START, after STOP, or on a dead instance: `respond(OK)` and nothing else (42_driver_ops.md R141).
The history line is the model's (log 12). -/
def Obligations.StopElsewhereIsHarmless : Prop :=
  ∀ s : State, s.cmdReady = true → s.dstate ≠ .closed → (s.dead = true ∨ s.dstate ≠ .running) →
    exec .hostStop s = .next { s with rsp := some .ok, hist := .rsp .ok :: s.hist }

/-- The illegal entries of the dispatch table: ILLEGAL_OPERATION and nothing else (42_driver_ops.md R141,
60_exceptions.md R209). The history line is the model's (log 12). -/
def Obligations.IllegalCommandsChangeNothing : Prop :=
  ∀ s : State, s.cmdReady = true →
    (s.dead = true ∨ s.dstate ≠ .uninit →
      exec .hostOpen s = .next { s with rsp := some .illegalOperation, hist := .rsp .illegalOperation :: s.hist }) ∧
    (s.dead = true ∨ s.dstate ≠ .ready ∨ s.fatal = true →
      exec .hostStart s = .next { s with rsp := some .illegalOperation, hist := .rsp .illegalOperation :: s.hist }) ∧
    (s.dead = true ∨ (s.dstate ≠ .ready ∧ s.dstate ≠ .stopped) →
      exec .hostClose s = .next { s with rsp := some .illegalOperation, hist := .rsp .illegalOperation :: s.hist }) ∧
    (s.dstate = .closed →
      exec .hostStop s = .next { s with rsp := some .illegalOperation, hist := .rsp .illegalOperation :: s.hist })

/-- A reserved op, when accepted, is answered ILLEGAL_OPERATION in every state and changes nothing (30_encoding.md R72).
That the history gets a line for the answer is the model's (log 12) and is left open here. -/
def Obligations.ReservedOpsAreAnsweredIllegal : Prop :=
  (∀ s : State, s.cmdReady = true → ∀ i ∈ [Instr.reserved000, .reserved101, .reserved110, .reserved111],
    ∃ t : State, exec i s = .next t ∧ t = { s with rsp := some .illegalOperation, hist := t.hist } ∧
      requestsOf t.hist = requestsOf s.hist) ∧
  decode (.cmd 0b000#3) = .ok .reserved000 ∧ decode (.cmd 0b101#3) = .ok .reserved101 ∧
  decode (.cmd 0b110#3) = .ok .reserved110 ∧ decode (.cmd 0b111#3) = .ok .reserved111

/-- `cmd_ready`, its reset value, and that a command is accepted only where it is presented with `cmd_ready` at 1: presented
while it is 0 it has no effect, and a step in which none is presented leaves none newly pending (10_state.md R43;
42_driver_ops.md R140). -/
def Obligations.CommandsWaitForReady : Prop :=
  ∀ s : State, (s.cmdReady = true ↔ s.hostPend = .nothing ∧ s.job ≠ .halt) ∧
    (s.cmdReady = false → ∀ op : BitVec 3, exec (decodeCommand op) s = .next s) ∧
    (∀ t : State, step s = .next t → (∀ op : BitVec 3, s.nextMove ≠ .host op) →
      t.hostPend = .nothing ∨ t.hostPend = s.hostPend) ∧
    State.reset.cmdReady = true

/-! ### Downstream requests -/

/-- WRITE_CMD, each opcode, every parameter: where a job names a transaction and none is outstanding, the byte goes on the
port as a WRITE_BYTES request and nothing else changes (41_bus_ops.md R120, R121). That any parameter runs wherever an issue
is enabled is log 7, and the history line log 12: both the model's choice. -/
def Obligations.WriteCmdPresentsItsByte : Prop :=
  ∀ (s : State) (par : Nibble), s.reqOut = none → s.namedRequest.isSome = true → s.conn = true →
    exec (.writeCmdSysSetup par) s = .next
      { s with
        reqOut := some { kind := 1#2, reg := 0x2#4 ++ par, data := 0#16 }
        hist := .issued { kind := 1#2, reg := 0x2#4 ++ par, data := 0#16 } :: s.hist } ∧
    exec (.writeCmdDisplaySetup par) s = .next
      { s with
        reqOut := some { kind := 1#2, reg := 0x8#4 ++ par, data := 0#16 }
        hist := .issued { kind := 1#2, reg := 0x8#4 ++ par, data := 0#16 } :: s.hist } ∧
    exec (.writeCmdDimming par) s = .next
      { s with
        reqOut := some { kind := 1#2, reg := 0xE#4 ++ par, data := 0#16 }
        hist := .issued { kind := 1#2, reg := 0xE#4 ++ par, data := 0#16 } :: s.hist }

/-- WRITE_REG16 at an offset of REG_MAP, every value (41_bus_ops.md R120, R122); any other offset is refused
(20_memory.md R57). That any operand runs wherever an issue is enabled is log 7, and the history line log 12: both the
model's choice. -/
def Obligations.WriteReg16PresentsItsWord : Prop :=
  (∀ (s : State) (reg : Byte) (value : Word),
    reg = 0x00#8 ∨ reg = 0x02#8 ∨ reg = 0x04#8 ∨ reg = 0x06#8 →
    s.reqOut = none → s.namedRequest.isSome = true → s.conn = true →
    exec (.writeReg16 reg value) s = .next
      { s with
        reqOut := some { kind := 2#2, reg := reg, data := value }
        hist := .issued { kind := 2#2, reg := reg, data := value } :: s.hist }) ∧
  (∀ (s : State) (reg : Byte) (value : Word),
    reg ≠ 0x00#8 → reg ≠ 0x02#8 → reg ≠ 0x04#8 → reg ≠ 0x06#8 →
    exec (.writeReg16 reg value) s = .refused (.registerOffsetOutsideMap reg))

/-- OPEN_DEVICE (41_bus_ops.md R120, R123) and CLOSE_DEVICE (R124), each with the CONN it requires. That
they run wherever an issue is enabled is log 7, and the history line log 12: both the model's choice. -/
def Obligations.ConnectionRequestsArePresented : Prop :=
  ∀ s : State, s.reqOut = none → s.namedRequest.isSome = true →
    (s.conn = false →
      exec .openDevice s = .next
        { s with
          reqOut := some { kind := 0#2, reg := 0x70#8, data := 0#16 }
          hist := .issued { kind := 0#2, reg := 0x70#8, data := 0#16 } :: s.hist }) ∧
    (s.conn = true →
      exec .closeDevice s = .next
        { s with
          reqOut := some { kind := 3#2, reg := 0x00#8, data := 0#16 }
          hist := .issued { kind := 3#2, reg := 0x00#8, data := 0#16 } :: s.hist })

/-- With a "requires" of R121 to R124 broken the model stops, whatever the operand. That it stops there is the model's choice
(log 7): the spec gives the operation no meaning, and no reachable state is such. -/
def Obligations.BrokenConnectionRequirementStops : Prop :=
  ∀ s : State, s.reqOut = none → s.namedRequest.isSome = true →
    (s.conn = true → exec .openDevice s = .fault .connectionHeld) ∧
    (s.conn = false → exec .closeDevice s = .fault .connectionMissing ∧
      (∀ par : Nibble, exec (.writeCmdSysSetup par) s = .fault .connectionMissing ∧
        exec (.writeCmdDisplaySetup par) s = .fault .connectionMissing ∧
        exec (.writeCmdDimming par) s = .fault .connectionMissing) ∧
      (∀ (reg : Byte) (v : Word), reg = 0x00#8 ∨ reg = 0x02#8 ∨ reg = 0x04#8 ∨ reg = 0x06#8 →
        exec (.writeReg16 reg v) s = .fault .connectionMissing))

/-- SEQ never has two requests outstanding: with one outstanding, no operation of SEQ has an effect (41_bus_ops.md R120,
R126). That a step that is not enabled leaves the state as it is, and that this holds of FORMAT, ENCODE and MUX too, is the
model's choice (log 6, log 11). -/
def Obligations.NoOperationOfSeqWhileOutstanding : Prop :=
  ∀ s : State, s.reqOut.isSome = true →
    exec .openDevice s = .next s ∧ exec .closeDevice s = .next s ∧ exec .tick s = .next s ∧ exec .format s = .next s ∧
    (∀ par : Nibble, exec (.writeCmdSysSetup par) s = .next s ∧ exec (.writeCmdDisplaySetup par) s = .next s ∧
      exec (.writeCmdDimming par) s = .next s ∧ exec (.encode par) s = .next s) ∧
    (∀ (i : BitVec 2) (v : Word), exec (.mux i) s = .next s ∧ exec (.writeReg16 (regMap i) v) s = .next s) ∧
    s.agentStep .seq = .next s

/-- While a request is outstanding only an answer or `rst` ends it; until then it stays stable and SEQ does not move
(41_bus_ops.md R120, R126). -/
def Obligations.RequestIsStableUntilItsAnswer : Prop :=
  ∀ (s t : State) (r : Request), s.reqOut = some r → step s = .next t →
    (∀ ok : Bool, s.nextMove ≠ .answer ok) → s.nextMove ≠ .rst →
    t.reqOut = some r ∧ t.job = s.job ∧ t.step = s.step ∧ t.dig = s.dig ∧ t.count = s.count ∧ t.conn = s.conn

/-- An answer with no request outstanding has no effect (41_bus_ops.md R120; 70_reset_and_hazards.md R233, a late one). -/
def Obligations.StrayAnswerHasNoEffect : Prop :=
  ∀ (s : State) (ok : Bool), s.reqOut = none → s.agentStep (.answer ok) = .next s

/-- The payload of a register write, in transmission order: the offset, the low byte, the high byte; a command's is its
byte (20_memory.md R55, R58; 30_encoding.md R75). -/
def Obligations.PayloadIsLittleEndian : Prop :=
  (∀ (reg lo hi : Byte), (regRequest reg (hi ++ lo)).payload = [reg, lo, hi]) ∧
  (∀ b : Byte, (cmdRequest b).payload = [b]) ∧ openRequest.payload = [] ∧ closeRequest.payload = []

/-- The address byte on the wire is 0xE0, for a write to 0x70 (41_bus_ops.md R127, informative: general knowledge). -/
def Obligations.FrameStartsWithTheAddress : Prop :=
  (∀ b : Byte, (cmdRequest b).frame = [0xE0#8, b]) ∧
  (∀ (reg lo hi : Byte), (regRequest reg (hi ++ lo)).frame = [0xE0#8, reg, lo, hi]) ∧
  openRequest.frame = [] ∧ closeRequest.frame = []

/-! ### Jobs -/

/-- What each job names at each step, and the bytes (42_driver_ops.md R143, R145, R147, R149; 43_tick_timer.md R176;
00_scope.md R13). -/
def Obligations.JobsNameTheirTransactions : Prop :=
  ∀ s : State,
    (s.job = .opening → s.step = 0#3 → s.namedRequest = some { kind := 0#2, reg := 0x70#8, data := 0#16 }) ∧
    (s.job = .cfg → s.step = 0#3 → s.namedRequest = some { kind := 1#2, reg := 0x21#8, data := 0#16 }) ∧
    (s.job = .cfg → s.step = 1#3 → s.cfg.blink ≤ 3 →
      s.namedRequest = some { kind := 1#2, reg := BitVec.ofNat 8 (0x81 + 2 * s.cfg.blink), data := 0#16 }) ∧
    (s.job = .cfg → s.step = 2#3 → s.cfg.brightness ≤ 15 →
      s.namedRequest = some { kind := 1#2, reg := BitVec.ofNat 8 (0xE0 + s.cfg.brightness), data := 0#16 }) ∧
    (s.job = .pwrdn → s.step = 0#3 → s.namedRequest = some { kind := 1#2, reg := 0x20#8, data := 0#16 }) ∧
    (s.job = .pwrdn → s.step = 1#3 → s.namedRequest = some { kind := 1#2, reg := 0x80#8, data := 0#16 }) ∧
    (s.job = .closing → s.step = 0#3 → s.namedRequest = some { kind := 3#2, reg := 0x00#8, data := 0#16 }) ∧
    (s.job = .tick → s.step = 0#3 → s.namedRequest = none) ∧
    (∀ (i : BitVec 2) (d : Nibble) (w : Word), s.job = .tick → s.step.toNat = i.toNat + 1 →
      [s.dig.d0, s.dig.d1, s.dig.d2, s.dig.d3][i.toNat]? = some d →
      [s.cfg.segRom.w0, s.cfg.segRom.w1, s.cfg.segRom.w2, s.cfg.segRom.w3, s.cfg.segRom.w4, s.cfg.segRom.w5,
        s.cfg.segRom.w6, s.cfg.segRom.w7, s.cfg.segRom.w8, s.cfg.segRom.w9][d.toNat]? = some w →
      s.namedRequest = some { kind := 2#2, reg := BitVec.ofNat 8 (2 * i.toNat), data := w }) ∧
    (s.job = .idle ∨ s.job = .halt → s.namedRequest = none) ∧
    dispOnByte defaultConfig = 0x81#8 ∧ dimByte defaultConfig = 0xEF#8

/-- The OPEN job ends with its answer (42_driver_ops.md R143, 60_exceptions.md R201). What the chip
takes, the draws and the history lines are the model's (log 12, log 14, log 16). -/
def Obligations.OpenJobEnds : Prop :=
  ∀ (s : State) (r : Request), s.reqOut = some r → s.job = .opening → s.step = 0#3 →
    s.agentStep (.answer true) = .next
      { s with
        reqOut := none, chip := s.chip.take r.payload, conn := true, dstate := .ready, job := .idle
        hostPend := .nothing, rsp := some .ok, hist := .rsp .ok :: .answered true :: s.hist } ∧
    s.agentStep (.answer false) = .next
      { s with
        reqOut := none, chip := s.chip.take (r.failedPayload s.draws), draws := s.draws + r.payload.length
        dead := true, fatal := true, err := .busUnavailable, job := .idle, hostPend := .nothing
        rsp := some .busUnavailable, hist := .rsp .busUnavailable :: .answered false :: s.hist }

/-- The CFG job: the next write, the end that starts the refresh loop, or the failure that ends START
(42_driver_ops.md R145, 60_exceptions.md R202). What the chip takes, the draws and the history lines are the model's
(log 12, log 14, log 16). -/
def Obligations.CfgJobContinues : Prop :=
  ∀ (s : State) (r : Request), s.reqOut = some r → s.job = .cfg → s.step.toNat ≤ 2 →
    (s.step ≠ 2#3 →
      s.agentStep (.answer true) = .next
        { s with
          reqOut := none, chip := s.chip.take r.payload, step := s.step + 1#3, hist := .answered true :: s.hist }) ∧
    (s.step = 2#3 →
      s.agentStep (.answer true) = .next
        { s with
          reqOut := none, chip := s.chip.take r.payload, dstate := .running, loop := true, cancel := false
          tarm := true, tmr := 0#7, job := .idle, hostPend := .nothing, rsp := some .ok
          hist := .rsp .ok :: .answered true :: s.hist }) ∧
    s.agentStep (.answer false) = .next
      { s with
        reqOut := none, chip := s.chip.take (r.failedPayload s.draws), draws := s.draws + r.payload.length
        fatal := true, err := .configWriteFailed, errStep := s.step, job := .idle, hostPend := .nothing
        rsp := some .configWriteFailed, hist := .rsp .configWriteFailed :: .answered false :: s.hist }

/-- The PWRDN job sends both bytes whatever the answers; a failure is a warning (42_driver_ops.md R147,
60_exceptions.md R207). What the chip takes, the draws and the history lines are the model's
(log 12, log 14, log 16). -/
def Obligations.PwrdnJobContinues : Prop :=
  ∀ (s : State) (r : Request), s.reqOut = some r → s.job = .pwrdn →
    (s.step = 0#3 →
      s.agentStep (.answer true) = .next
        { s with reqOut := none, chip := s.chip.take r.payload, step := 1#3, hist := .answered true :: s.hist } ∧
      s.agentStep (.answer false) = .next
        { s with
          reqOut := none, chip := s.chip.take (r.failedPayload s.draws), draws := s.draws + r.payload.length
          warnSd := true, evt := some .shutdownWriteFailed, step := 1#3
          hist := .evt .shutdownWriteFailed :: .answered false :: s.hist }) ∧
    (s.step = 1#3 →
      s.agentStep (.answer true) = .next
        { s with reqOut := none, chip := s.chip.take r.payload, job := .idle, hist := .answered true :: s.hist } ∧
      s.agentStep (.answer false) = .next
        { s with
          reqOut := none, chip := s.chip.take (r.failedPayload s.draws), draws := s.draws + r.payload.length
          warnSd := true, evt := some .shutdownWriteFailed, job := .idle
          hist := .evt .shutdownWriteFailed :: .answered false :: s.hist })

/-- The CLOSE job always ends in CLOSED with OK; a failure is a warning (42_driver_ops.md R149, 60_exceptions.md R208).
What the chip takes, the draws and the history lines are the model's (log 12, log 14, log 16). -/
def Obligations.CloseJobEnds : Prop :=
  ∀ (s : State) (r : Request), s.reqOut = some r → s.job = .closing → s.step = 0#3 →
    s.agentStep (.answer true) = .next
      { s with
        reqOut := none, chip := s.chip.take r.payload, conn := false, dstate := .closed, job := .idle
        hostPend := .nothing, rsp := some .ok, hist := .rsp .ok :: .answered true :: s.hist } ∧
    s.agentStep (.answer false) = .next
      { s with
        reqOut := none, chip := s.chip.take (r.failedPayload s.draws), draws := s.draws + r.payload.length
        warnCl := true, evt := some .closeFailed, conn := false, dstate := .closed, job := .idle
        hostPend := .nothing, rsp := some .ok
        hist := .rsp .ok :: .evt .closeFailed :: .answered false :: s.hist }

/-- The answers to a tick's writes: the next write, the end of the tick with its decrement, or the failure that ends the
loop with COUNT unchanged (43_tick_timer.md R176, R177, R178; 60_exceptions.md R203).
What the chip takes, the draws and the history lines are the model's (log 12, log 14, log 16). -/
def Obligations.TickJobContinues : Prop :=
  ∀ (s : State) (r : Request), s.reqOut = some r → s.job = .tick → s.namedRequest.isSome = true →
    (s.step ≠ 4#3 →
      s.agentStep (.answer true) = .next
        { s with
          reqOut := none, chip := s.chip.take r.payload, step := s.step + 1#3, hist := .answered true :: s.hist }) ∧
    (s.step = 4#3 → s.cancel = false →
      s.agentStep (.answer true) = .next
        { s with
          reqOut := none, chip := s.chip.take r.payload, count := s.count - 1#16, tarm := true, tmr := 100#7
          job := .idle, hist := .answered true :: s.hist }) ∧
    (s.step = 4#3 → s.cancel = true →
      s.agentStep (.answer true) = .next
        { s with
          reqOut := none, chip := s.chip.take r.payload, count := s.count - 1#16, loop := false
          job := .idle, hist := .answered true :: s.hist }) ∧
    s.agentStep (.answer false) = .next
      { s with
        reqOut := none, chip := s.chip.take (r.failedPayload s.draws), draws := s.draws + r.payload.length
        fatal := true, err := .displayWriteFailed, errStep := s.step, loop := false, job := .idle
        evt := some .displayWriteFailed, hist := .evt .displayWriteFailed :: .answered false :: s.hist }

/-- Job selection when JOB = NONE (42_driver_ops.md R150). That SEQ's move changes nothing where R150 enables no
step is log 6. -/
def Obligations.SeqSelectsItsJob : Prop :=
  ∀ s : State, s.reqOut = none → s.job = .idle →
    s.agentStep .seq = .next
      (if s.pwrdnPend = true then { s with pwrdnPend := false, job := Job.pwrdn, step := 0#3 }
       else if s.hostPend = .opening then { s with job := Job.opening, step := 0#3 }
       else if s.hostPend = .starting then { s with job := Job.cfg, step := 0#3 }
       else if s.hostPend = .closing then { s with job := Job.closing, step := 0#3 }
       else if s.loop = true ∧ s.tarm = true ∧ s.tmr = 0#7 then { s with tarm := false, job := Job.tick, step := 0#3 }
       else s)

/-! ### Timer and tick -/

/-- STROBE (43_tick_timer.md R171). -/
def Obligations.StrobeCountsDown : Prop :=
  ∀ s : State,
    (s.tarm = true → 0 < s.tmr.toNat → exec .strobe s = .next { s with tmr := BitVec.ofNat 7 (s.tmr.toNat - 1) }) ∧
    (s.tarm = false ∨ s.tmr = 0#7 → exec .strobe s = .next s)

/-- TICK start (43_tick_timer.md R174): it is the TICK operation, and SEQ's own step takes it. -/
def Obligations.TickStartsWhenDue : Prop :=
  ∀ s : State, s.reqOut = none → s.job = .idle → s.pwrdnPend = false → s.hostPend = .nothing →
    s.loop = true → s.tarm = true → s.tmr = 0#7 →
    exec .tick s = .next { s with tarm := false, job := .tick, step := 0#3 } ∧
    s.agentStep .seq = .next { s with tarm := false, job := .tick, step := 0#3 }

/-- TICK step 0 (43_tick_timer.md R175): CANCEL first, then the sentinel, then FORMAT; a COUNT above 9999 is the defect of
60_exceptions.md R204 and R206. -/
def Obligations.TickTopChecksThenFormats : Prop :=
  ∀ s : State, s.reqOut = none → s.job = .tick → s.step = 0#3 →
    (s.cancel = true ∨ s.count.toInt < 0 →
      exec .tick s = .next { s with loop := false, job := .idle }) ∧
    (s.cancel = false → 0 ≤ s.count.toInt → s.count.toInt ≤ 9999 →
      exec .tick s = .next
        { s with
          dig :=
            { d0 := BitVec.ofNat 4 (s.count.toNat / 1000 % 10), d1 := BitVec.ofNat 4 (s.count.toNat / 100 % 10)
              d2 := BitVec.ofNat 4 (s.count.toNat / 10 % 10), d3 := BitVec.ofNat 4 (s.count.toNat % 10) }
          step := 1#3 }) ∧
    (s.cancel = false → 9999 < s.count.toInt →
      exec .tick s = .next
        { s with
          defect := true, fatal := true, err := .valueOutOfRange, job := .halt
          evt := some .valueOutOfRange, hist := .evt .valueOutOfRange :: s.hist }) ∧
    s.agentStep .seq = exec .tick s

/-- TICK steps 1 to 4 (43_tick_timer.md R176): SEQ's step is WRITE_REG16 of what MUX gives for position STEP - 1, whether
read as TICK or fetched as the request, and it puts that word on the port; a latch above 9 is the defect of 60_exceptions.md
R204 and R205, and nothing is issued. The history line of the request is the model's (log 12). -/
def Obligations.TickWritesWhatMuxGives : Prop :=
  (∀ (s : State) (i : BitVec 2) (w : Word), s.cfg.wf = true → s.reqOut = none → s.conn = true → s.job = .tick →
    s.step.toNat = i.toNat + 1 → encodeDigit s.cfg.segRom (s.dig.at i) = .ok w →
    exec .tick s = exec (.writeReg16 (BitVec.ofNat 8 (2 * i.toNat)) w) s ∧
    s.agentStep .seq = exec (.writeReg16 (BitVec.ofNat 8 (2 * i.toNat)) w) s ∧
    exec .tick s = .next
      { s with
        reqOut := some { kind := 2#2, reg := BitVec.ofNat 8 (2 * i.toNat), data := w }
        hist := .issued { kind := 2#2, reg := BitVec.ofNat 8 (2 * i.toNat), data := w } :: s.hist }) ∧
  (∀ (s : State) (i : BitVec 2) (d : Nibble), s.reqOut = none → s.job = .tick → s.step.toNat = i.toNat + 1 →
    [s.dig.d0, s.dig.d1, s.dig.d2, s.dig.d3][i.toNat]? = some d → 9 < d.toNat →
    exec .tick s = .next
      { s with
        defect := true, fatal := true, err := .invalidDigit, job := .halt
        evt := some .invalidDigit, hist := .evt .invalidDigit :: s.hist } ∧
    s.agentStep .seq = exec .tick s)

/-- One whole tick with every answer ok: the four writes of COUNT's digits, in order, then COUNT - 1 and the timer armed
with 100 (43_tick_timer.md R182, its example for 42 with it). -/
def Obligations.TickShowsCountAndDecrements : Prop :=
  ∀ s : State, s.cfg.wf = true → s.reqOut = none → s.conn = true → s.job = .idle → s.pwrdnPend = false →
    s.hostPend = .nothing → s.loop = true → s.tarm = true → s.tmr = 0#7 → s.cancel = false →
    0 ≤ s.count.toInt → s.count.toInt ≤ 9999 →
    s.moves = [.seq, .seq, .seq, .answer true, .seq, .answer true, .seq, .answer true, .seq, .answer true] →
    ∃ t : State, Host.Core.run core 10 s = .next t ∧
      requestsOf t.hist =
        countdownWrite s.cfg.segRom s.count.toNat 3 :: countdownWrite s.cfg.segRom s.count.toNat 2 ::
        countdownWrite s.cfg.segRom s.count.toNat 1 :: countdownWrite s.cfg.segRom s.count.toNat 0 ::
        requestsOf s.hist ∧
      t.count.toInt = s.count.toInt - 1 ∧ t.tarm = true ∧ t.tmr = 100#7 ∧ t.loop = true ∧ t.job = .idle ∧
      t.dstate = s.dstate ∧ t.err = s.err ∧ t.fatal = s.fatal

/-! ### Datapath -/

/-- FORMAT gives the four decimal digits, and only on 0 to 9999 (40_datapath.md R100, R101). -/
def Obligations.FormatGivesTheDecimalDigits : Prop :=
  (∀ n : Int, 0 ≤ n → n ≤ 9999 → ∃ d : Digits, formatDigits n = .ok d ∧
    d.d0.toNat ≤ 9 ∧ d.d1.toNat ≤ 9 ∧ d.d2.toNat ≤ 9 ∧ d.d3.toNat ≤ 9 ∧
    (1000 * d.d0.toNat + 100 * d.d1.toNat + 10 * d.d2.toNat + d.d3.toNat : Int) = n) ∧
  (∀ n : Int, n < 0 ∨ 9999 < n → formatDigits n = .error .valueOutOfRange)

/-- FORMAT as an operation on COUNT: the digits on the model's result wires (log 11) and no register written, or the defect
(40_datapath.md R100, 60_exceptions.md R204, R206). -/
def Obligations.FormatWritesNoRegister : Prop :=
  ∀ s : State, s.reqOut = none → s.job ≠ .halt →
    (0 ≤ s.count.toInt → s.count.toInt ≤ 9999 →
      exec .format s = .next
        { s with
          dout := some (.digits
            { d0 := BitVec.ofNat 4 (s.count.toNat / 1000 % 10), d1 := BitVec.ofNat 4 (s.count.toNat / 100 % 10)
              d2 := BitVec.ofNat 4 (s.count.toNat / 10 % 10), d3 := BitVec.ofNat 4 (s.count.toNat % 10) }) }) ∧
    (s.count.toInt < 0 ∨ 9999 < s.count.toInt →
      exec .format s = .next
        { s with
          defect := true, fatal := true, err := .valueOutOfRange, job := .halt
          evt := some .valueOutOfRange, hist := .evt .valueOutOfRange :: s.hist })

/-- ENCODE reads the ROM, or raises InvalidDigit (40_datapath.md R102, 60_exceptions.md R204, R205; the wires are log 11). -/
def Obligations.EncodeReadsTheRom : Prop :=
  ∀ (s : State) (d : Nibble), s.reqOut = none → s.job ≠ .halt →
    (∀ w : Word,
      [s.cfg.segRom.w0, s.cfg.segRom.w1, s.cfg.segRom.w2, s.cfg.segRom.w3, s.cfg.segRom.w4, s.cfg.segRom.w5,
        s.cfg.segRom.w6, s.cfg.segRom.w7, s.cfg.segRom.w8, s.cfg.segRom.w9][d.toNat]? = some w →
      exec (.encode d) s = .next { s with dout := some (.word w) }) ∧
    (9 < d.toNat →
      exec (.encode d) s = .next
        { s with
          defect := true, fatal := true, err := .invalidDigit, job := .halt
          evt := some .invalidDigit, hist := .evt .invalidDigit :: s.hist })

/-- MUX pairs the offset 2 * i with the code of DIG[i] (40_datapath.md R106; the wires are log 11). -/
def Obligations.MuxPairsOffsetAndCode : Prop :=
  ∀ (s : State) (i : BitVec 2) (d : Nibble), s.reqOut = none → s.job ≠ .halt →
    [s.dig.d0, s.dig.d1, s.dig.d2, s.dig.d3][i.toNat]? = some d →
    (∀ w : Word,
      [s.cfg.segRom.w0, s.cfg.segRom.w1, s.cfg.segRom.w2, s.cfg.segRom.w3, s.cfg.segRom.w4, s.cfg.segRom.w5,
        s.cfg.segRom.w6, s.cfg.segRom.w7, s.cfg.segRom.w8, s.cfg.segRom.w9][d.toNat]? = some w →
      exec (.mux i) s = .next { s with dout := some (.regWord (BitVec.ofNat 8 (2 * i.toNat)) w) }) ∧
    (9 < d.toNat →
      exec (.mux i) s = .next
        { s with
          defect := true, fatal := true, err := .invalidDigit, job := .halt
          evt := some .invalidDigit, hist := .evt .invalidDigit :: s.hist })

/-- The decrement (43_tick_timer.md R180). -/
def Obligations.DecrementIsTwosComplement : Prop :=
  (∀ c : Word, (decrementCount c).toNat = (c.toNat + 0xFFFF) % 2 ^ 16) ∧
  (∀ c : Word, 0 ≤ c.toInt → c.toInt ≤ 9999 → (decrementCount c).toInt = c.toInt - 1) ∧
  decrementCount 0x0000#16 = 0xFFFF#16 ∧ (0xFFFF#16 : Word).toInt = -1

/-! ### The chip, state of BUS -/

/-- A register write answered ok: the low byte lands at the offset, the high byte one above, and every other offset reads
as before. That the chip advances its pointer is general knowledge (20_memory.md R55, R56; log 13); that it takes the write
at the answer is the model's choice (log 16). -/
def Obligations.AnsweredWriteLandsInTheDisplayRam : Prop :=
  ∀ (s : State) (i : BitVec 2) (v : Word), s.reqOut = some (regRequest (regMap i) v) →
    ∃ t : State, s.agentStep (.answer true) = .next t ∧
      Memory.read t.chip.ram (2 * i.toNat) = some (v.extractLsb' 0 8) ∧
      Memory.read t.chip.ram (2 * i.toNat + 1) = some (v.extractLsb' 8 8) ∧
      (∀ a : Nat, a ≠ 2 * i.toNat → a ≠ 2 * i.toNat + 1 → Memory.read t.chip.ram a = Memory.read s.chip.ram a) ∧
      t.chip.osc = s.chip.osc ∧ t.chip.disp = s.chip.disp ∧ t.chip.dim = s.chip.dim

/-- A failed register write changes at most its own digit, to bytes nothing is known of, and a failed command at most its own
setting, to a value nothing is known of (93_implementation_defined.md U12). The free values are log 14; that the chip changes
at the answer is the model's choice (log 16). -/
def Obligations.FailedWriteTouchesOnlyItsDigitOrSetting : Prop :=
  (∀ (s : State) (i : BitVec 2) (v : Word), s.reqOut = some (regRequest (regMap i) v) →
    ∃ t : State, s.agentStep (.answer false) = .next t ∧
      (∀ a : Nat, a ≠ 2 * i.toNat → a ≠ 2 * i.toNat + 1 → Memory.read t.chip.ram a = Memory.read s.chip.ram a) ∧
      Memory.read t.chip.ram (2 * i.toNat) = some (Config.freeByte s.draws) ∧
      Memory.read t.chip.ram (2 * i.toNat + 1) = some (Config.freeByte (s.draws + 1)) ∧
      t.chip.osc = s.chip.osc ∧ t.chip.disp = s.chip.disp ∧ t.chip.dim = s.chip.dim) ∧
  (∀ (s : State) (par : Nibble),
    (s.reqOut = some (cmdRequest (0x2#4 ++ par)) →
      ∃ t : State, s.agentStep (.answer false) = .next t ∧
        t.chip = { s.chip with osc := Config.freeNibble s.draws }) ∧
    (s.reqOut = some (cmdRequest (0x8#4 ++ par)) →
      ∃ t : State, s.agentStep (.answer false) = .next t ∧
        t.chip = { s.chip with disp := Config.freeNibble s.draws }) ∧
    (s.reqOut = some (cmdRequest (0xE#4 ++ par)) →
      ∃ t : State, s.agentStep (.answer false) = .next t ∧
        t.chip = { s.chip with dim := Config.freeNibble s.draws }))

/-- A command answered ok sets its own setting and nothing else (20_memory.md R61, 30_encoding.md R73). That the chip takes
it at the answer is the model's choice (log 16). -/
def Obligations.AnsweredCommandSetsItsSetting : Prop :=
  ∀ (s : State) (par : Nibble),
    (s.reqOut = some (cmdRequest (0x2#4 ++ par)) →
      ∃ t : State, s.agentStep (.answer true) = .next t ∧ t.chip = { s.chip with osc := par }) ∧
    (s.reqOut = some (cmdRequest (0x8#4 ++ par)) →
      ∃ t : State, s.agentStep (.answer true) = .next t ∧ t.chip = { s.chip with disp := par }) ∧
    (s.reqOut = some (cmdRequest (0xE#4 ++ par)) →
      ∃ t : State, s.agentStep (.answer true) = .next t ∧ t.chip = { s.chip with dim := par })

/-! ### The whole machine -/

/-- No step writes the parameters or SEG_ROM, and only an answer changes the chip: a reset does not (10_state.md R39, R44;
60_exceptions.md R223; 70_reset_and_hazards.md R233). That the chip takes a transaction in the step that answers it is the
model's choice (log 16), and that a reset with a request outstanding leaves the chip as it was is inferred (log 15). -/
def Obligations.OnlyAnswersReachTheChip : Prop :=
  ∀ s t : State, step s = .next t →
    t.cfg = s.cfg ∧ ((∀ ok : Bool, s.nextMove ≠ .answer ok) → t.chip = s.chip)

/-- Every state right after reset meets the invariant, the issue order and the countdown trace. The machine's own reset state
is the one with the parameters' default values (00_scope.md R8, R11, R12; 40_datapath.md R103, general knowledge; log 4) and
COUNT 0x03E8 (10_state.md R23, R42); the chip at power-on is presumed (log 13), and no move listed and no draw made is the
model's choice (log 1, log 14). -/
def Obligations.InvariantsHoldAtReset : Prop :=
  (∀ (cfg : Config) (chip : Chip) (moves : List Move) (draws : Nat), cfg.wf = true → Memory.wf chip.ram = true →
    (State.initial cfg chip moves draws).Inv ∧ (State.initial cfg chip moves draws).OrderInv ∧
    (State.initial cfg chip moves draws).CountdownInv) ∧
  core.reset = State.initial
    { countInit := 1000, brightness := 15, blink := 0
      segRom :=
        { w0 := 0x003F#16, w1 := 0x0006#16, w2 := 0x005B#16, w3 := 0x004F#16, w4 := 0x0066#16
          w5 := 0x006D#16, w6 := 0x007D#16, w7 := 0x0007#16, w8 := 0x007F#16, w9 := 0x006F#16 } }
    Chip.powerOn [] 0 ∧
  State.reset.countOut = 0x03E8#16 ∧ State.reset.dstate = .uninit ∧ State.reset.job = .idle

/-- Every step of every agent keeps the invariant: R45, what makes it inductive, and the form of the display RAM. -/
def Obligations.EveryStepKeepsTheInvariant : Prop :=
  ∀ s t : State, s.Inv → step s = .next t → t.Inv

/-- Under a well-formed configuration every reachable state satisfies R45 (10_state.md R45). -/
def Obligations.ReachableStatesSatisfyR45 : Prop :=
  ∀ s : State, Reachable s → s.R45

/-- From a state of the invariant every step has a next state, no defect is raised and SEQ is not halted: no fault and no
refusal is reachable under a well-formed configuration (10_state.md R45 item 10, 60_exceptions.md R204). That FAULT(code)
is a halted next state and no stop is read from R204 by inference (log 8). -/
def Obligations.NoStepStopsUnderTheInvariant : Prop :=
  ∀ s : State, s.Inv → ∃ t : State, step s = .next t ∧ t.defect = false ∧ t.job ≠ .halt ∧ t.faultCode = none

/-- Every step keeps the issue order of 20_memory.md R64: OPEN_DEVICE, then the three configuration bytes in their order,
then the register writes, then the two power-down bytes, then CLOSE_DEVICE; each but the register writes at most once.
The requests are read from the model's history (log 12). -/
def Obligations.EveryStepKeepsTheIssueOrder : Prop :=
  ∀ s t : State, s.OrderInv → step s = .next t → t.OrderInv

/-- Every step keeps the countdown trace: the register writes since reset are exactly the first ones of COUNT_INIT,
COUNT_INIT - 1, ..., each tick's four to 0x00, 0x02, 0x04, 0x06 (43_tick_timer.md R181, R182).
The writes are read from the model's history (log 12). -/
def Obligations.EveryStepKeepsTheCountdown : Prop :=
  ∀ s t : State, s.CountdownInv → step s = .next t → t.CountdownInv

/-- A countdown from N that has come to -1 without a failed display write has issued exactly 4 (N + 1) register writes,
those that show N, N - 1, ..., 0 (43_tick_timer.md R181). The writes are read from the model's history (log 12). -/
def Obligations.FinishedCountdownHasShownEveryValue : Prop :=
  ∀ s : State, s.CountdownInv → s.count.toInt = -1 → s.err ≠ .displayWriteFailed → s.job ≠ .tick →
    (registerWrites s.requests).reverse =
      (List.range (4 * (s.cfg.countInit + 1).toNat)).map (countdownWrite s.cfg.segRom s.cfg.countInit.toNat)

/-- Each transaction is answered before the next is issued, in every run (20_memory.md R59, R63). Issues and answers are read
from the model's history (log 12). -/
def Obligations.TransactionsAreSerial : Prop :=
  ∀ s t : State, serial s.hist → outstanding s.hist = s.reqOut → step s = .next t →
    serial t.hist ∧ outstanding t.hist = t.reqOut

/-- What is newly issued is one of the requests of 20_memory.md R57 and 30_encoding.md R80: OPEN_DEVICE, one of the five
command bytes, a SEG_ROM word to an offset of REG_MAP, or CLOSE_DEVICE; and CONN is as it requires. -/
def Obligations.OnlyKnownRequestsAreIssued : Prop :=
  ∀ (s t : State) (r : Request), s.Inv → step s = .next t → t.reqOut = some r → s.reqOut = none →
    (r = openRequest ∧ s.conn = false) ∨
    ((r = closeRequest ∨ r = cmdRequest 0x21#8 ∨ r = cmdRequest (dispOnByte s.cfg) ∨ r = cmdRequest (dimByte s.cfg) ∨
      r = cmdRequest 0x20#8 ∨ r = cmdRequest 0x80#8 ∨
      ∃ (i : BitVec 2) (d : Nibble) (w : Word), encodeDigit s.cfg.segRom d = .ok w ∧ r = regRequest (regMap i) w) ∧
      s.conn = true)

/-- DSTATE moves only along the edges of the state machine, so READY is never entered again and CLOSED is terminal: after
it no transaction is issued (10_state.md R20, 42_driver_ops.md R153). -/
def Obligations.DriverStateFollowsItsEdges : Prop :=
  ∀ s t : State, s.Inv → step s = .next t → s.nextMove ≠ .rst →
    (t.dstate = s.dstate ∨ (s.dstate = .uninit ∧ t.dstate = .ready) ∨ (s.dstate = .ready ∧ t.dstate = .running) ∨
      (s.dstate = .ready ∧ t.dstate = .closed) ∨ (s.dstate = .running ∧ t.dstate = .stopped) ∨
      (s.dstate = .stopped ∧ t.dstate = .closed)) ∧
    (s.dstate = .closed → t.dstate = .closed ∧ t.reqOut = none ∧ t.requests = s.requests)

/-- Nothing but reset clears the record of an error, and the first fatal error is the only one (60_exceptions.md R213,
R214; 10_state.md R34 to R38). -/
def Obligations.OnlyResetClearsTheRecord : Prop :=
  ∀ s t : State, step s = .next t → s.nextMove ≠ .rst →
    (s.fatal = true → t.fatal = true) ∧ (s.dead = true → t.dead = true) ∧ (s.defect = true → t.defect = true) ∧
    (s.warnSd = true → t.warnSd = true) ∧ (s.warnCl = true → t.warnCl = true) ∧
    (s.Inv → s.fatal = true → t.err = s.err ∧ t.errStep = s.errStep)

/-- After STOP no tick starts again before reset, and a register write is issued only by the tick that was in flight
(42_driver_ops.md R152). The writes are read from the model's history (log 12). -/
def Obligations.NoTickStartsAfterStop : Prop :=
  ∀ s t : State, s.Inv → s.dstate = .stopped ∨ s.dstate = .closed → step s = .next t → s.nextMove ≠ .rst →
    (t.dstate = .stopped ∨ t.dstate = .closed) ∧
    (s.job ≠ .tick → t.job ≠ .tick ∧ registerWrites t.requests = registerWrites s.requests) ∧
    (t.tarm = false) ∧ (s.job = .tick → t.job ≠ .tick → t.loop = false)

/-- In HALT no command is accepted, no request goes out and nothing changes JOB but reset (60_exceptions.md R204). That the
pulses of the step before are over in the next step is inferred (log 10). -/
def Obligations.HaltIsLeftOnlyByReset : Prop :=
  ∀ s t : State, s.job = .halt → step s = .next t → s.nextMove ≠ .rst →
    t.job = .halt ∧ t.cmdReady = false ∧ t.dstate = s.dstate ∧ t.count = s.count ∧ t.hostPend = s.hostPend ∧
    t.rsp = none ∧ t.evt = none ∧ requestsOf t.hist = requestsOf s.hist

/-- Only an accepted command is answered, once: in a step that gives a response either a command has just been accepted and
is answered at once, with none pending after it, or the pending command is answered and no longer pending
(42_driver_ops.md R151). Responses are OK, BUS_UNAVAILABLE, CONFIG_WRITE_FAILED or ILLEGAL_OPERATION, and events the codes
3 to 7 (60_exceptions.md R200, R221). That a pulse is over when the next step begins is inferred (log 10). -/
def Obligations.ResponsesAnswerAcceptedCommands : Prop :=
  ∀ s t : State, s.Inv → step s = .next t →
    (∀ c : Code, t.rsp = some c →
      (c = .ok ∨ c = .busUnavailable ∨ c = .configWriteFailed ∨ c = .illegalOperation) ∧ t.hostPend = .nothing ∧
      ((∃ op : BitVec 3, s.nextMove = .host op ∧ s.cmdReady = true) ∨
        ((∃ ok : Bool, s.nextMove = .answer ok) ∧ s.hostPend ≠ .nothing))) ∧
    (s.hostPend ≠ .nothing → t.hostPend = .nothing → s.nextMove ≠ .rst → t.rsp.isSome = true) ∧
    (∀ c : Code, t.evt = some c →
      c = .displayWriteFailed ∨ c = .closeFailed ∨ c = .shutdownWriteFailed) ∧
    (t.evt.isSome = true → ∃ ok : Bool, s.nextMove = .answer ok)
end

