-- ==== Sys2Proof/Laws/Encoding.lean ====
section
/-! SUPPORT. Command bytes and their nibbles, and which requests decode. -/

namespace Sys2Proof.Machine

theorem commandByte_eq_append : ∀ opc par : Nibble, commandByte opc par = opc ++ par := by decide

theorem opcodeOf_commandByte : ∀ opc par : Nibble, opcodeOf (commandByte opc par) = opc := by decide

theorem parameterOf_commandByte : ∀ opc par : Nibble, parameterOf (commandByte opc par) = par := by decide

theorem commandByte_split : ∀ b : Byte, commandByte (opcodeOf b) (parameterOf b) = b := by decide

theorem opcodeOf_oscOnByte : opcodeOf oscOnByte = 0x2#4 := by decide

theorem opcodeOf_oscOffByte : opcodeOf oscOffByte = 0x2#4 := by decide

theorem opcodeOf_dispOffByte : opcodeOf dispOffByte = 0x8#4 := by decide

/-- With BLINK in its range, DISP_ON_BYTE is a DISPLAY_SETUP command. -/
theorem opcodeOf_dispOnByte (c : Config) (h : c.blink ≤ 3) : opcodeOf (dispOnByte c) = 0x8#4 := by
  unfold dispOnByte
  have : ∀ k : Nat, k ≤ 3 → opcodeOf (0x80#8 ||| (BitVec.ofNat 8 k <<< 1) ||| 0x1#8) = 0x8#4 := by decide
  exact this _ h

/-- With BRIGHTNESS in its range, DIM_BYTE is a DIMMING command. -/
theorem opcodeOf_dimByte (c : Config) (h : c.brightness ≤ 15) : opcodeOf (dimByte c) = 0xE#4 := by
  unfold dimByte
  have : ∀ k : Nat, k ≤ 15 → opcodeOf (0xE0#8 ||| BitVec.ofNat 8 k) = 0xE#4 := by decide
  exact this _ h

theorem Config.wf_iff (c : Config) :
    c.wf = true ↔ (-1 ≤ c.countInit ∧ c.countInit ≤ 9999) ∧ c.brightness ≤ 15 ∧ c.blink ≤ 3 := by
  simp [Config.wf, and_assoc]

/-- A command byte of R73 decodes to the WRITE_CMD that issues it. -/
theorem exec_of_commandByte (s : State) (b : Byte)
    (h : opcodeOf b = 0x2#4 ∨ opcodeOf b = 0x8#4 ∨ opcodeOf b = 0xE#4) :
    ∃ i, decode (cmdRequest b).word = .ok i ∧ exec i s = s.issue (cmdRequest b) := by
  have hs := commandByte_split b
  rcases h with h | h | h <;> rw [h] at hs
  · exact ⟨.writeCmdSysSetup (parameterOf b), by
      simp [Request.word, cmdRequest, decode, decodeRequest, decodeCommandByte, h], by
      simp [exec, execWriteCmdSysSetup, hs]⟩
  · exact ⟨.writeCmdDisplaySetup (parameterOf b), by
      simp [Request.word, cmdRequest, decode, decodeRequest, decodeCommandByte, h], by
      simp [exec, execWriteCmdDisplaySetup, hs]⟩
  · exact ⟨.writeCmdDimming (parameterOf b), by
      simp [Request.word, cmdRequest, decode, decodeRequest, decodeCommandByte, h], by
      simp [exec, execWriteCmdDimming, hs]⟩

theorem inRegMap_regMap : ∀ i : BitVec 2, inRegMap (regMap i) = true := by decide

theorem exec_of_regRequest (s : State) (i : BitVec 2) (v : Word) :
    ∃ j, decode (regRequest (regMap i) v).word = .ok j ∧ exec j s = s.issue (regRequest (regMap i) v) :=
  ⟨.writeReg16 (regMap i) v, by
    simp [Request.word, regRequest, decode, decodeRequest, inRegMap_regMap], by
    simp [exec, execWriteReg16, inRegMap_regMap]⟩

theorem exec_of_openRequest (s : State) :
    ∃ j, decode openRequest.word = .ok j ∧ exec j s = s.issue openRequest :=
  ⟨.openDevice, by decide, rfl⟩

theorem exec_of_closeRequest (s : State) :
    ∃ j, decode closeRequest.word = .ok j ∧ exec j s = s.issue closeRequest :=
  ⟨.closeDevice, by decide, rfl⟩

theorem muxDigit_ok {rom : SegRom} {d : Digits} {i : BitVec 2} {rv : Byte × Word} (h : muxDigit rom d i = .ok rv) :
    rv.1 = regMap i ∧ encodeDigit rom (d.at i) = .ok rv.2 := by
  unfold muxDigit at h
  split at h
  · cases h
    exact ⟨rfl, by assumption⟩
  · cases h

/-- The request the current job names decodes to the operation that issues it. -/
theorem exec_of_namedRequest (s : State) (r : Request) (hc : s.cfg.wf = true) (h : s.namedRequest = some r) :
    ∃ i, decode r.word = .ok i ∧ exec i s = s.issue r := by
  obtain ⟨-, hbr, hbl⟩ := (Config.wf_iff _).1 hc
  unfold State.namedRequest at h
  split at h
  · cases h
  · split at h <;> cases h
    exact exec_of_openRequest s
  · obtain ⟨b, hb, rfl⟩ := Option.map_eq_some_iff.1 h
    refine exec_of_commandByte s b ?_
    unfold cfgByte at hb
    split at hb
    · cases hb; exact .inl opcodeOf_oscOnByte
    · split at hb
      · cases hb; exact .inr (.inl (opcodeOf_dispOnByte _ hbl))
      · split at hb <;> cases hb
        exact .inr (.inr (opcodeOf_dimByte _ hbr))
  · split at h
    · cases h
    · split at h <;> cases h
      rename_i rv hm
      rw [(muxDigit_ok hm).1]
      exact exec_of_regRequest s _ _
  · obtain ⟨b, hb, rfl⟩ := Option.map_eq_some_iff.1 h
    refine exec_of_commandByte s b ?_
    unfold pwrdnByte at hb
    split at hb
    · cases hb; exact .inl opcodeOf_oscOffByte
    · split at hb <;> cases hb
      exact .inr (.inl opcodeOf_dispOffByte)
  · split at h <;> cases h
    exact exec_of_closeRequest s
  · cases h

end Sys2Proof.Machine
end

