-- ==== Sys2Proof/Laws/Memory.lean ====
section
/-! SUPPORT. The display RAM: read after write, and every operation keeps the canonical form. -/

namespace Sys2Proof.Machine

theorem Memory.read_write_same (m : Memory) (x : Nat) (v : Byte) : Memory.read (Memory.write m x v) x = some v := by
  induction m with
  | nil => simp [Memory.write, Memory.read]
  | cons c m ih =>
    obtain ⟨a, b⟩ := c
    simp only [Memory.write]
    split
    · simp [Memory.read]
    · split
      · simp [Memory.read]
      · simp only [Memory.read]
        rw [if_neg (by omega)]
        exact ih

theorem Memory.read_write_other (m : Memory) (x y : Nat) (v : Byte) (h : y ≠ x) :
    Memory.read (Memory.write m x v) y = Memory.read m y := by
  induction m with
  | nil => simp [Memory.write, Memory.read, Ne.symm h]
  | cons c m ih =>
    obtain ⟨a, b⟩ := c
    simp only [Memory.write]
    split
    · simp [Memory.read, Ne.symm h]
    · split
      · rename_i hx
        subst hx
        simp [Memory.read, Ne.symm h]
      · simp only [Memory.read, ih]

/-- The offset a list's first cell must lie above. -/
theorem Memory.wf_cons (a : Nat) (b : Byte) (m : Memory) :
    Memory.wf ((a, b) :: m) = true ↔ a < 16 ∧ (∀ c ∈ m.head?, a < c.1) ∧ Memory.wf m = true := by
  induction m generalizing a b with
  | nil => simp [Memory.wf]
  | cons c m ih =>
    obtain ⟨a', b'⟩ := c
    have := ih a' b'
    simp only [Memory.wf, Bool.and_eq_true, decide_eq_true_eq, List.head?_cons, Option.mem_def, Option.some.injEq,
      forall_eq']
    constructor
    · rintro ⟨h1, h2⟩
      exact ⟨by have := (this.1 h2).1; omega, h1, h2⟩
    · rintro ⟨_, h1, h2⟩
      exact ⟨h1, h2⟩

theorem Memory.head_write (m : Memory) (x : Nat) (v : Byte) :
    ∀ c ∈ (Memory.write m x v).head?, c.1 = x ∨ ∃ d ∈ m.head?, c.1 = d.1 := by
  cases m with
  | nil => simp [Memory.write]
  | cons c m =>
    obtain ⟨a, b⟩ := c
    simp only [Memory.write]
    split
    · simp
    · split <;> simp

theorem Memory.write_wf (m : Memory) (x : Nat) (v : Byte) (hx : x < 16) (h : Memory.wf m = true) :
    Memory.wf (Memory.write m x v) = true := by
  induction m with
  | nil => simp [Memory.write, Memory.wf, hx]
  | cons c m ih =>
    obtain ⟨a, b⟩ := c
    have hc := (Memory.wf_cons a b m).1 h
    simp only [Memory.write]
    split
    · exact (Memory.wf_cons _ _ _).2 ⟨hx, by simpa using ‹x < a›, h⟩
    · split
      · rename_i _ hxa
        subst hxa
        exact (Memory.wf_cons _ _ _).2 hc
      · refine (Memory.wf_cons _ _ _).2 ⟨hc.1, ?_, ih hc.2.2⟩
        intro d hd
        rcases Memory.head_write m x v d hd with h1 | ⟨e, he, h1⟩
        · omega
        · have := hc.2.1 e he
          omega

theorem Memory.writeFrom_wf (vs : List Byte) (m : Memory) (p : Nibble) (h : Memory.wf m = true) :
    Memory.wf (Memory.writeFrom m p vs) = true := by
  induction vs generalizing m p with
  | nil => exact h
  | cons v vs ih => exact ih _ _ (Memory.write_wf m _ v (by omega) h)

/-- The chip keeps the form, whatever it takes. -/
theorem Chip.take_wf (c : Chip) (bs : List Byte) (h : Memory.wf c.ram = true) : Memory.wf (c.take bs).ram = true := by
  unfold Chip.take
  split
  · exact h
  · split
    · exact Memory.writeFrom_wf _ _ _ h
    · repeat' split
      all_goals exact h

theorem reset_ram_wf : Memory.wf State.reset.chip.ram = true := by decide

end Sys2Proof.Machine
end

