-- ==== Sys2Proof/Laws/Operands.lean ====
section
/-! SUPPORT. What the operand functions answer: the named request, the datapath, the constants. -/

namespace Sys2Proof.Machine

/-- The named request depends on JOB, STEP, the parameters and the latches only. -/
theorem namedRequest_congr {s t : State} (h1 : t.job = s.job) (h2 : t.step = s.step) (h3 : t.cfg = s.cfg)
    (h4 : t.dig = s.dig) : t.namedRequest = s.namedRequest := by
  unfold State.namedRequest
  rw [h1, h2, h3, h4]

theorem namedRequest_of_idle (s : State) (h : s.job = .idle) : s.namedRequest = none := by
  simp [State.namedRequest, h]

theorem namedRequest_of_halt (s : State) (h : s.job = .halt) : s.namedRequest = none := by
  simp [State.namedRequest, h]

/-- A tick at steps 1 to 4 names the write of what MUX gives. -/
theorem namedRequest_of_tick {s : State} {i : BitVec 2} {w : Word} (hj : s.job = .tick)
    (hi : tickPosition s.step = some i) (hm : muxDigit s.cfg.segRom s.dig i = .ok (regMap i, w)) :
    s.namedRequest = some (regRequest (regMap i) w) := by
  simp [State.namedRequest, hj, hi, hm]

theorem regMap_eq : ∀ i : BitVec 2, regMap i = BitVec.ofNat 8 (2 * i.toNat) := by decide

theorem tickPosition_eq_some :
    ∀ (k : BitVec 3) (i : BitVec 2), tickPosition k = some i ↔ k.toNat = i.toNat + 1 := by decide

/-- The comparison with 0 reads the sign (43_tick_timer.md R179). -/
theorem countNegative_iff (c : Word) : countNegative c = true ↔ c.toInt < 0 := by
  unfold countNegative
  rw [BitVec.msb_eq_toInt]
  simp

/-- The ROM as a list of ten words. -/
def romList (rom : SegRom) : List Word :=
  [rom.w0, rom.w1, rom.w2, rom.w3, rom.w4, rom.w5, rom.w6, rom.w7, rom.w8, rom.w9]

theorem encodeDigit_eq (rom : SegRom) (d : Nibble) :
    encodeDigit rom d =
      match (romList rom)[d.toNat]? with
      | some w => .ok w
      | none => .error .invalidDigit := by
  have h : d ∈ (List.range 16).map (BitVec.ofNat 4) := by revert d; decide
  simp [List.range, List.range.loop] at h
  rcases h with rfl | rfl | rfl | rfl | rfl | rfl | rfl | rfl | rfl | rfl | rfl | rfl | rfl | rfl | rfl | rfl <;> rfl

/-- A digit has a segment code. -/
theorem encodeDigit_ok (rom : SegRom) (d : Nibble) (h : d.toNat ≤ 9) : ∃ w, encodeDigit rom d = .ok w := by
  rw [encodeDigit_eq, List.getElem?_eq_getElem (by simp [romList]; omega)]
  exact ⟨_, rfl⟩

theorem digits_at_eq (d : Digits) (i : BitVec 2) : [d.d0, d.d1, d.d2, d.d3][i.toNat]? = some (d.at i) := by
  have h : i ∈ (List.range 4).map (BitVec.ofNat 2) := by revert i; decide
  simp [List.range, List.range.loop] at h
  rcases h with rfl | rfl | rfl | rfl <;> rfl

/-- Under the invariant no tick meets a latch that is no digit. -/
theorem muxDigit_of_stepInv {s : State} (h : s.StepInv) (i : BitVec 2) :
    ∃ w, muxDigit s.cfg.segRom s.dig i = .ok (regMap i, w) := by
  obtain ⟨-, -, -, -, -, -, ⟨h0, h1, h2, h3⟩, -⟩ := h
  have hd : (s.dig.at i).toNat ≤ 9 := by
    unfold Digits.at
    repeat' split
    all_goals assumption
  obtain ⟨w, hw⟩ := encodeDigit_ok s.cfg.segRom _ hd
  exact ⟨w, by simp [muxDigit, hw]⟩

/-- FORMAT of COUNT, read through its bits. -/
theorem formatDigits_count (c : Word) (h : 0 ≤ c.toInt) (h' : c.toInt ≤ 9999) :
    formatDigits c.toInt = .ok
      { d0 := BitVec.ofNat 4 (c.toNat / 1000 % 10), d1 := BitVec.ofNat 4 (c.toNat / 100 % 10)
        d2 := BitVec.ofNat 4 (c.toNat / 10 % 10), d3 := BitVec.ofNat 4 (c.toNat % 10) } := by
  have : c.toInt.toNat = c.toNat := by
    rw [BitVec.toInt_eq_toNat_cond] at *
    split at h <;> split at h' <;> (simp_all; try omega)
  unfold formatDigits
  rw [if_neg (by omega), this]

/-- A word by its high and low byte. -/
theorem append_bytes_toNat (hi lo : Byte) : (hi ++ lo : BitVec (8 + 8)).toNat = 256 * hi.toNat + lo.toNat := by
  rw [BitVec.toNat_append, Nat.shiftLeft_eq, Nat.mul_comm, ← Nat.two_pow_add_eq_or_of_lt lo.isLt]

/-- The two bytes of a word whose high and low byte are given. -/
theorem append_bytes (hi lo : Byte) : (hi ++ lo).extractLsb' 0 8 = lo ∧ (hi ++ lo).extractLsb' 8 8 = hi := by
  have h := append_bytes_toNat hi lo
  constructor <;> apply BitVec.eq_of_toNat_eq <;> rw [BitVec.extractLsb'_toNat, h]
  · omega
  · rw [Nat.shiftRight_eq_div_pow]
    omega

end Sys2Proof.Machine
end

