-- ==== Sys2Proof/Laws/State.lean ====
section
/-! SUPPORT. What each named update does to each field. -/

namespace Sys2Proof.Machine

variable (s : State)

/-! ### respond -/

@[simp] theorem State.respond_cfg (c : Code) : (s.respond c).cfg = s.cfg := rfl
@[simp] theorem State.respond_dstate (c : Code) : (s.respond c).dstate = s.dstate := rfl
@[simp] theorem State.respond_dead (c : Code) : (s.respond c).dead = s.dead := rfl
@[simp] theorem State.respond_conn (c : Code) : (s.respond c).conn = s.conn := rfl
@[simp] theorem State.respond_count (c : Code) : (s.respond c).count = s.count := rfl
@[simp] theorem State.respond_loop (c : Code) : (s.respond c).loop = s.loop := rfl
@[simp] theorem State.respond_cancel (c : Code) : (s.respond c).cancel = s.cancel := rfl
@[simp] theorem State.respond_tarm (c : Code) : (s.respond c).tarm = s.tarm := rfl
@[simp] theorem State.respond_tmr (c : Code) : (s.respond c).tmr = s.tmr := rfl
@[simp] theorem State.respond_job (c : Code) : (s.respond c).job = s.job := rfl
@[simp] theorem State.respond_step (c : Code) : (s.respond c).step = s.step := rfl
@[simp] theorem State.respond_reqOut (c : Code) : (s.respond c).reqOut = s.reqOut := rfl
@[simp] theorem State.respond_pwrdnPend (c : Code) : (s.respond c).pwrdnPend = s.pwrdnPend := rfl
@[simp] theorem State.respond_hostPend (c : Code) : (s.respond c).hostPend = s.hostPend := rfl
@[simp] theorem State.respond_dig (c : Code) : (s.respond c).dig = s.dig := rfl
@[simp] theorem State.respond_fatal (c : Code) : (s.respond c).fatal = s.fatal := rfl
@[simp] theorem State.respond_err (c : Code) : (s.respond c).err = s.err := rfl
@[simp] theorem State.respond_errStep (c : Code) : (s.respond c).errStep = s.errStep := rfl
@[simp] theorem State.respond_defect (c : Code) : (s.respond c).defect = s.defect := rfl
@[simp] theorem State.respond_warnSd (c : Code) : (s.respond c).warnSd = s.warnSd := rfl
@[simp] theorem State.respond_warnCl (c : Code) : (s.respond c).warnCl = s.warnCl := rfl
@[simp] theorem State.respond_rsp (c : Code) : (s.respond c).rsp = some c := rfl
@[simp] theorem State.respond_evt (c : Code) : (s.respond c).evt = s.evt := rfl
@[simp] theorem State.respond_dout (c : Code) : (s.respond c).dout = s.dout := rfl
@[simp] theorem State.respond_chip (c : Code) : (s.respond c).chip = s.chip := rfl
@[simp] theorem State.respond_hist (c : Code) : (s.respond c).hist = .rsp c :: s.hist := rfl
@[simp] theorem State.respond_moves (c : Code) : (s.respond c).moves = s.moves := rfl
@[simp] theorem State.respond_draws (c : Code) : (s.respond c).draws = s.draws := rfl

/-! ### emit -/

@[simp] theorem State.emit_cfg (c : Code) : (s.emit c).cfg = s.cfg := rfl
@[simp] theorem State.emit_dstate (c : Code) : (s.emit c).dstate = s.dstate := rfl
@[simp] theorem State.emit_dead (c : Code) : (s.emit c).dead = s.dead := rfl
@[simp] theorem State.emit_conn (c : Code) : (s.emit c).conn = s.conn := rfl
@[simp] theorem State.emit_count (c : Code) : (s.emit c).count = s.count := rfl
@[simp] theorem State.emit_loop (c : Code) : (s.emit c).loop = s.loop := rfl
@[simp] theorem State.emit_cancel (c : Code) : (s.emit c).cancel = s.cancel := rfl
@[simp] theorem State.emit_tarm (c : Code) : (s.emit c).tarm = s.tarm := rfl
@[simp] theorem State.emit_tmr (c : Code) : (s.emit c).tmr = s.tmr := rfl
@[simp] theorem State.emit_job (c : Code) : (s.emit c).job = s.job := rfl
@[simp] theorem State.emit_step (c : Code) : (s.emit c).step = s.step := rfl
@[simp] theorem State.emit_reqOut (c : Code) : (s.emit c).reqOut = s.reqOut := rfl
@[simp] theorem State.emit_pwrdnPend (c : Code) : (s.emit c).pwrdnPend = s.pwrdnPend := rfl
@[simp] theorem State.emit_hostPend (c : Code) : (s.emit c).hostPend = s.hostPend := rfl
@[simp] theorem State.emit_dig (c : Code) : (s.emit c).dig = s.dig := rfl
@[simp] theorem State.emit_fatal (c : Code) : (s.emit c).fatal = s.fatal := rfl
@[simp] theorem State.emit_err (c : Code) : (s.emit c).err = s.err := rfl
@[simp] theorem State.emit_errStep (c : Code) : (s.emit c).errStep = s.errStep := rfl
@[simp] theorem State.emit_defect (c : Code) : (s.emit c).defect = s.defect := rfl
@[simp] theorem State.emit_warnSd (c : Code) : (s.emit c).warnSd = s.warnSd := rfl
@[simp] theorem State.emit_warnCl (c : Code) : (s.emit c).warnCl = s.warnCl := rfl
@[simp] theorem State.emit_rsp (c : Code) : (s.emit c).rsp = s.rsp := rfl
@[simp] theorem State.emit_evt (c : Code) : (s.emit c).evt = some c := rfl
@[simp] theorem State.emit_dout (c : Code) : (s.emit c).dout = s.dout := rfl
@[simp] theorem State.emit_chip (c : Code) : (s.emit c).chip = s.chip := rfl
@[simp] theorem State.emit_hist (c : Code) : (s.emit c).hist = .evt c :: s.hist := rfl
@[simp] theorem State.emit_moves (c : Code) : (s.emit c).moves = s.moves := rfl
@[simp] theorem State.emit_draws (c : Code) : (s.emit c).draws = s.draws := rfl

/-! ### respondJob -/

@[simp] theorem State.respondJob_cfg (c : Code) : (s.respondJob c).cfg = s.cfg := rfl
@[simp] theorem State.respondJob_dstate (c : Code) : (s.respondJob c).dstate = s.dstate := rfl
@[simp] theorem State.respondJob_dead (c : Code) : (s.respondJob c).dead = s.dead := rfl
@[simp] theorem State.respondJob_conn (c : Code) : (s.respondJob c).conn = s.conn := rfl
@[simp] theorem State.respondJob_count (c : Code) : (s.respondJob c).count = s.count := rfl
@[simp] theorem State.respondJob_loop (c : Code) : (s.respondJob c).loop = s.loop := rfl
@[simp] theorem State.respondJob_cancel (c : Code) : (s.respondJob c).cancel = s.cancel := rfl
@[simp] theorem State.respondJob_tarm (c : Code) : (s.respondJob c).tarm = s.tarm := rfl
@[simp] theorem State.respondJob_tmr (c : Code) : (s.respondJob c).tmr = s.tmr := rfl
@[simp] theorem State.respondJob_job (c : Code) : (s.respondJob c).job = .idle := rfl
@[simp] theorem State.respondJob_step (c : Code) : (s.respondJob c).step = s.step := rfl
@[simp] theorem State.respondJob_reqOut (c : Code) : (s.respondJob c).reqOut = s.reqOut := rfl
@[simp] theorem State.respondJob_pwrdnPend (c : Code) : (s.respondJob c).pwrdnPend = s.pwrdnPend := rfl
@[simp] theorem State.respondJob_hostPend (c : Code) : (s.respondJob c).hostPend = .nothing := rfl
@[simp] theorem State.respondJob_dig (c : Code) : (s.respondJob c).dig = s.dig := rfl
@[simp] theorem State.respondJob_fatal (c : Code) : (s.respondJob c).fatal = s.fatal := rfl
@[simp] theorem State.respondJob_err (c : Code) : (s.respondJob c).err = s.err := rfl
@[simp] theorem State.respondJob_errStep (c : Code) : (s.respondJob c).errStep = s.errStep := rfl
@[simp] theorem State.respondJob_defect (c : Code) : (s.respondJob c).defect = s.defect := rfl
@[simp] theorem State.respondJob_warnSd (c : Code) : (s.respondJob c).warnSd = s.warnSd := rfl
@[simp] theorem State.respondJob_warnCl (c : Code) : (s.respondJob c).warnCl = s.warnCl := rfl
@[simp] theorem State.respondJob_rsp (c : Code) : (s.respondJob c).rsp = some c := rfl
@[simp] theorem State.respondJob_evt (c : Code) : (s.respondJob c).evt = s.evt := rfl
@[simp] theorem State.respondJob_dout (c : Code) : (s.respondJob c).dout = s.dout := rfl
@[simp] theorem State.respondJob_chip (c : Code) : (s.respondJob c).chip = s.chip := rfl
@[simp] theorem State.respondJob_hist (c : Code) : (s.respondJob c).hist = .rsp c :: s.hist := rfl
@[simp] theorem State.respondJob_moves (c : Code) : (s.respondJob c).moves = s.moves := rfl
@[simp] theorem State.respondJob_draws (c : Code) : (s.respondJob c).draws = s.draws := rfl

/-! ### output -/

@[simp] theorem State.output_cfg (d : DataOut) : (s.output d).cfg = s.cfg := rfl
@[simp] theorem State.output_dstate (d : DataOut) : (s.output d).dstate = s.dstate := rfl
@[simp] theorem State.output_dead (d : DataOut) : (s.output d).dead = s.dead := rfl
@[simp] theorem State.output_conn (d : DataOut) : (s.output d).conn = s.conn := rfl
@[simp] theorem State.output_count (d : DataOut) : (s.output d).count = s.count := rfl
@[simp] theorem State.output_loop (d : DataOut) : (s.output d).loop = s.loop := rfl
@[simp] theorem State.output_cancel (d : DataOut) : (s.output d).cancel = s.cancel := rfl
@[simp] theorem State.output_tarm (d : DataOut) : (s.output d).tarm = s.tarm := rfl
@[simp] theorem State.output_tmr (d : DataOut) : (s.output d).tmr = s.tmr := rfl
@[simp] theorem State.output_job (d : DataOut) : (s.output d).job = s.job := rfl
@[simp] theorem State.output_step (d : DataOut) : (s.output d).step = s.step := rfl
@[simp] theorem State.output_reqOut (d : DataOut) : (s.output d).reqOut = s.reqOut := rfl
@[simp] theorem State.output_pwrdnPend (d : DataOut) : (s.output d).pwrdnPend = s.pwrdnPend := rfl
@[simp] theorem State.output_hostPend (d : DataOut) : (s.output d).hostPend = s.hostPend := rfl
@[simp] theorem State.output_dig (d : DataOut) : (s.output d).dig = s.dig := rfl
@[simp] theorem State.output_fatal (d : DataOut) : (s.output d).fatal = s.fatal := rfl
@[simp] theorem State.output_err (d : DataOut) : (s.output d).err = s.err := rfl
@[simp] theorem State.output_errStep (d : DataOut) : (s.output d).errStep = s.errStep := rfl
@[simp] theorem State.output_defect (d : DataOut) : (s.output d).defect = s.defect := rfl
@[simp] theorem State.output_warnSd (d : DataOut) : (s.output d).warnSd = s.warnSd := rfl
@[simp] theorem State.output_warnCl (d : DataOut) : (s.output d).warnCl = s.warnCl := rfl
@[simp] theorem State.output_rsp (d : DataOut) : (s.output d).rsp = s.rsp := rfl
@[simp] theorem State.output_evt (d : DataOut) : (s.output d).evt = s.evt := rfl
@[simp] theorem State.output_dout (d : DataOut) : (s.output d).dout = some d := rfl
@[simp] theorem State.output_chip (d : DataOut) : (s.output d).chip = s.chip := rfl
@[simp] theorem State.output_hist (d : DataOut) : (s.output d).hist = s.hist := rfl
@[simp] theorem State.output_moves (d : DataOut) : (s.output d).moves = s.moves := rfl
@[simp] theorem State.output_draws (d : DataOut) : (s.output d).draws = s.draws := rfl

/-! ### beginStep -/

@[simp] theorem State.beginStep_cfg : (s.beginStep).cfg = s.cfg := rfl
@[simp] theorem State.beginStep_dstate : (s.beginStep).dstate = s.dstate := rfl
@[simp] theorem State.beginStep_dead : (s.beginStep).dead = s.dead := rfl
@[simp] theorem State.beginStep_conn : (s.beginStep).conn = s.conn := rfl
@[simp] theorem State.beginStep_count : (s.beginStep).count = s.count := rfl
@[simp] theorem State.beginStep_loop : (s.beginStep).loop = s.loop := rfl
@[simp] theorem State.beginStep_cancel : (s.beginStep).cancel = s.cancel := rfl
@[simp] theorem State.beginStep_tarm : (s.beginStep).tarm = s.tarm := rfl
@[simp] theorem State.beginStep_tmr : (s.beginStep).tmr = s.tmr := rfl
@[simp] theorem State.beginStep_job : (s.beginStep).job = s.job := rfl
@[simp] theorem State.beginStep_step : (s.beginStep).step = s.step := rfl
@[simp] theorem State.beginStep_reqOut : (s.beginStep).reqOut = s.reqOut := rfl
@[simp] theorem State.beginStep_pwrdnPend : (s.beginStep).pwrdnPend = s.pwrdnPend := rfl
@[simp] theorem State.beginStep_hostPend : (s.beginStep).hostPend = s.hostPend := rfl
@[simp] theorem State.beginStep_dig : (s.beginStep).dig = s.dig := rfl
@[simp] theorem State.beginStep_fatal : (s.beginStep).fatal = s.fatal := rfl
@[simp] theorem State.beginStep_err : (s.beginStep).err = s.err := rfl
@[simp] theorem State.beginStep_errStep : (s.beginStep).errStep = s.errStep := rfl
@[simp] theorem State.beginStep_defect : (s.beginStep).defect = s.defect := rfl
@[simp] theorem State.beginStep_warnSd : (s.beginStep).warnSd = s.warnSd := rfl
@[simp] theorem State.beginStep_warnCl : (s.beginStep).warnCl = s.warnCl := rfl
@[simp] theorem State.beginStep_rsp : (s.beginStep).rsp = none := rfl
@[simp] theorem State.beginStep_evt : (s.beginStep).evt = none := rfl
@[simp] theorem State.beginStep_dout : (s.beginStep).dout = none := rfl
@[simp] theorem State.beginStep_chip : (s.beginStep).chip = s.chip := rfl
@[simp] theorem State.beginStep_hist : (s.beginStep).hist = s.hist := rfl
@[simp] theorem State.beginStep_moves : (s.beginStep).moves = s.moves := rfl
@[simp] theorem State.beginStep_draws : (s.beginStep).draws = s.draws := rfl

/-! ### present -/

@[simp] theorem State.present_cfg (r : Request) : (s.present r).cfg = s.cfg := rfl
@[simp] theorem State.present_dstate (r : Request) : (s.present r).dstate = s.dstate := rfl
@[simp] theorem State.present_dead (r : Request) : (s.present r).dead = s.dead := rfl
@[simp] theorem State.present_conn (r : Request) : (s.present r).conn = s.conn := rfl
@[simp] theorem State.present_count (r : Request) : (s.present r).count = s.count := rfl
@[simp] theorem State.present_loop (r : Request) : (s.present r).loop = s.loop := rfl
@[simp] theorem State.present_cancel (r : Request) : (s.present r).cancel = s.cancel := rfl
@[simp] theorem State.present_tarm (r : Request) : (s.present r).tarm = s.tarm := rfl
@[simp] theorem State.present_tmr (r : Request) : (s.present r).tmr = s.tmr := rfl
@[simp] theorem State.present_job (r : Request) : (s.present r).job = s.job := rfl
@[simp] theorem State.present_step (r : Request) : (s.present r).step = s.step := rfl
@[simp] theorem State.present_reqOut (r : Request) : (s.present r).reqOut = some r := rfl
@[simp] theorem State.present_pwrdnPend (r : Request) : (s.present r).pwrdnPend = s.pwrdnPend := rfl
@[simp] theorem State.present_hostPend (r : Request) : (s.present r).hostPend = s.hostPend := rfl
@[simp] theorem State.present_dig (r : Request) : (s.present r).dig = s.dig := rfl
@[simp] theorem State.present_fatal (r : Request) : (s.present r).fatal = s.fatal := rfl
@[simp] theorem State.present_err (r : Request) : (s.present r).err = s.err := rfl
@[simp] theorem State.present_errStep (r : Request) : (s.present r).errStep = s.errStep := rfl
@[simp] theorem State.present_defect (r : Request) : (s.present r).defect = s.defect := rfl
@[simp] theorem State.present_warnSd (r : Request) : (s.present r).warnSd = s.warnSd := rfl
@[simp] theorem State.present_warnCl (r : Request) : (s.present r).warnCl = s.warnCl := rfl
@[simp] theorem State.present_rsp (r : Request) : (s.present r).rsp = s.rsp := rfl
@[simp] theorem State.present_evt (r : Request) : (s.present r).evt = s.evt := rfl
@[simp] theorem State.present_dout (r : Request) : (s.present r).dout = s.dout := rfl
@[simp] theorem State.present_chip (r : Request) : (s.present r).chip = s.chip := rfl
@[simp] theorem State.present_hist (r : Request) : (s.present r).hist = .issued r :: s.hist := rfl
@[simp] theorem State.present_moves (r : Request) : (s.present r).moves = s.moves := rfl
@[simp] theorem State.present_draws (r : Request) : (s.present r).draws = s.draws := rfl

/-! ### enterJob -/

@[simp] theorem State.enterJob_cfg (j : Job) : (s.enterJob j).cfg = s.cfg := rfl
@[simp] theorem State.enterJob_dstate (j : Job) : (s.enterJob j).dstate = s.dstate := rfl
@[simp] theorem State.enterJob_dead (j : Job) : (s.enterJob j).dead = s.dead := rfl
@[simp] theorem State.enterJob_conn (j : Job) : (s.enterJob j).conn = s.conn := rfl
@[simp] theorem State.enterJob_count (j : Job) : (s.enterJob j).count = s.count := rfl
@[simp] theorem State.enterJob_loop (j : Job) : (s.enterJob j).loop = s.loop := rfl
@[simp] theorem State.enterJob_cancel (j : Job) : (s.enterJob j).cancel = s.cancel := rfl
@[simp] theorem State.enterJob_tarm (j : Job) : (s.enterJob j).tarm = s.tarm := rfl
@[simp] theorem State.enterJob_tmr (j : Job) : (s.enterJob j).tmr = s.tmr := rfl
@[simp] theorem State.enterJob_job (j : Job) : (s.enterJob j).job = j := rfl
@[simp] theorem State.enterJob_step (j : Job) : (s.enterJob j).step = 0#3 := rfl
@[simp] theorem State.enterJob_reqOut (j : Job) : (s.enterJob j).reqOut = s.reqOut := rfl
@[simp] theorem State.enterJob_pwrdnPend (j : Job) : (s.enterJob j).pwrdnPend = s.pwrdnPend := rfl
@[simp] theorem State.enterJob_hostPend (j : Job) : (s.enterJob j).hostPend = s.hostPend := rfl
@[simp] theorem State.enterJob_dig (j : Job) : (s.enterJob j).dig = s.dig := rfl
@[simp] theorem State.enterJob_fatal (j : Job) : (s.enterJob j).fatal = s.fatal := rfl
@[simp] theorem State.enterJob_err (j : Job) : (s.enterJob j).err = s.err := rfl
@[simp] theorem State.enterJob_errStep (j : Job) : (s.enterJob j).errStep = s.errStep := rfl
@[simp] theorem State.enterJob_defect (j : Job) : (s.enterJob j).defect = s.defect := rfl
@[simp] theorem State.enterJob_warnSd (j : Job) : (s.enterJob j).warnSd = s.warnSd := rfl
@[simp] theorem State.enterJob_warnCl (j : Job) : (s.enterJob j).warnCl = s.warnCl := rfl
@[simp] theorem State.enterJob_rsp (j : Job) : (s.enterJob j).rsp = s.rsp := rfl
@[simp] theorem State.enterJob_evt (j : Job) : (s.enterJob j).evt = s.evt := rfl
@[simp] theorem State.enterJob_dout (j : Job) : (s.enterJob j).dout = s.dout := rfl
@[simp] theorem State.enterJob_chip (j : Job) : (s.enterJob j).chip = s.chip := rfl
@[simp] theorem State.enterJob_hist (j : Job) : (s.enterJob j).hist = s.hist := rfl
@[simp] theorem State.enterJob_moves (j : Job) : (s.enterJob j).moves = s.moves := rfl
@[simp] theorem State.enterJob_draws (j : Job) : (s.enterJob j).draws = s.draws := rfl

/-! ### startTick -/

@[simp] theorem State.startTick_cfg : (s.startTick).cfg = s.cfg := rfl
@[simp] theorem State.startTick_dstate : (s.startTick).dstate = s.dstate := rfl
@[simp] theorem State.startTick_dead : (s.startTick).dead = s.dead := rfl
@[simp] theorem State.startTick_conn : (s.startTick).conn = s.conn := rfl
@[simp] theorem State.startTick_count : (s.startTick).count = s.count := rfl
@[simp] theorem State.startTick_loop : (s.startTick).loop = s.loop := rfl
@[simp] theorem State.startTick_cancel : (s.startTick).cancel = s.cancel := rfl
@[simp] theorem State.startTick_tarm : (s.startTick).tarm = false := rfl
@[simp] theorem State.startTick_tmr : (s.startTick).tmr = s.tmr := rfl
@[simp] theorem State.startTick_job : (s.startTick).job = .tick := rfl
@[simp] theorem State.startTick_step : (s.startTick).step = 0#3 := rfl
@[simp] theorem State.startTick_reqOut : (s.startTick).reqOut = s.reqOut := rfl
@[simp] theorem State.startTick_pwrdnPend : (s.startTick).pwrdnPend = s.pwrdnPend := rfl
@[simp] theorem State.startTick_hostPend : (s.startTick).hostPend = s.hostPend := rfl
@[simp] theorem State.startTick_dig : (s.startTick).dig = s.dig := rfl
@[simp] theorem State.startTick_fatal : (s.startTick).fatal = s.fatal := rfl
@[simp] theorem State.startTick_err : (s.startTick).err = s.err := rfl
@[simp] theorem State.startTick_errStep : (s.startTick).errStep = s.errStep := rfl
@[simp] theorem State.startTick_defect : (s.startTick).defect = s.defect := rfl
@[simp] theorem State.startTick_warnSd : (s.startTick).warnSd = s.warnSd := rfl
@[simp] theorem State.startTick_warnCl : (s.startTick).warnCl = s.warnCl := rfl
@[simp] theorem State.startTick_rsp : (s.startTick).rsp = s.rsp := rfl
@[simp] theorem State.startTick_evt : (s.startTick).evt = s.evt := rfl
@[simp] theorem State.startTick_dout : (s.startTick).dout = s.dout := rfl
@[simp] theorem State.startTick_chip : (s.startTick).chip = s.chip := rfl
@[simp] theorem State.startTick_hist : (s.startTick).hist = s.hist := rfl
@[simp] theorem State.startTick_moves : (s.startTick).moves = s.moves := rfl
@[simp] theorem State.startTick_draws : (s.startTick).draws = s.draws := rfl

/-! ### release -/

@[simp] theorem State.release_cfg (r : Request) (ok : Bool) : (s.release r ok).cfg = s.cfg := rfl
@[simp] theorem State.release_dstate (r : Request) (ok : Bool) : (s.release r ok).dstate = s.dstate := rfl
@[simp] theorem State.release_dead (r : Request) (ok : Bool) : (s.release r ok).dead = s.dead := rfl
@[simp] theorem State.release_conn (r : Request) (ok : Bool) : (s.release r ok).conn = s.conn := rfl
@[simp] theorem State.release_count (r : Request) (ok : Bool) : (s.release r ok).count = s.count := rfl
@[simp] theorem State.release_loop (r : Request) (ok : Bool) : (s.release r ok).loop = s.loop := rfl
@[simp] theorem State.release_cancel (r : Request) (ok : Bool) : (s.release r ok).cancel = s.cancel := rfl
@[simp] theorem State.release_tarm (r : Request) (ok : Bool) : (s.release r ok).tarm = s.tarm := rfl
@[simp] theorem State.release_tmr (r : Request) (ok : Bool) : (s.release r ok).tmr = s.tmr := rfl
@[simp] theorem State.release_job (r : Request) (ok : Bool) : (s.release r ok).job = s.job := rfl
@[simp] theorem State.release_step (r : Request) (ok : Bool) : (s.release r ok).step = s.step := rfl
@[simp] theorem State.release_reqOut (r : Request) (ok : Bool) : (s.release r ok).reqOut = none := rfl
@[simp] theorem State.release_pwrdnPend (r : Request) (ok : Bool) : (s.release r ok).pwrdnPend = s.pwrdnPend := rfl
@[simp] theorem State.release_hostPend (r : Request) (ok : Bool) : (s.release r ok).hostPend = s.hostPend := rfl
@[simp] theorem State.release_dig (r : Request) (ok : Bool) : (s.release r ok).dig = s.dig := rfl
@[simp] theorem State.release_fatal (r : Request) (ok : Bool) : (s.release r ok).fatal = s.fatal := rfl
@[simp] theorem State.release_err (r : Request) (ok : Bool) : (s.release r ok).err = s.err := rfl
@[simp] theorem State.release_errStep (r : Request) (ok : Bool) : (s.release r ok).errStep = s.errStep := rfl
@[simp] theorem State.release_defect (r : Request) (ok : Bool) : (s.release r ok).defect = s.defect := rfl
@[simp] theorem State.release_warnSd (r : Request) (ok : Bool) : (s.release r ok).warnSd = s.warnSd := rfl
@[simp] theorem State.release_warnCl (r : Request) (ok : Bool) : (s.release r ok).warnCl = s.warnCl := rfl
@[simp] theorem State.release_rsp (r : Request) (ok : Bool) : (s.release r ok).rsp = s.rsp := rfl
@[simp] theorem State.release_evt (r : Request) (ok : Bool) : (s.release r ok).evt = s.evt := rfl
@[simp] theorem State.release_dout (r : Request) (ok : Bool) : (s.release r ok).dout = s.dout := rfl
@[simp] theorem State.release_chip (r : Request) (ok : Bool) : (s.release r ok).chip = s.chip.take (if ok then r.payload else r.failedPayload s.draws) := rfl
@[simp] theorem State.release_hist (r : Request) (ok : Bool) : (s.release r ok).hist = .answered ok :: s.hist := rfl
@[simp] theorem State.release_moves (r : Request) (ok : Bool) : (s.release r ok).moves = s.moves := rfl
@[simp] theorem State.release_draws (r : Request) (ok : Bool) : (s.release r ok).draws = if ok then s.draws else s.draws + r.payload.length := rfl

/-! ### acceptStop -/

@[simp] theorem State.acceptStop_cfg : s.acceptStop.cfg = s.cfg := rfl
@[simp] theorem State.acceptStop_dstate : s.acceptStop.dstate = .stopped := rfl
@[simp] theorem State.acceptStop_dead : s.acceptStop.dead = s.dead := rfl
@[simp] theorem State.acceptStop_conn : s.acceptStop.conn = s.conn := rfl
@[simp] theorem State.acceptStop_count : s.acceptStop.count = s.count := rfl
@[simp] theorem State.acceptStop_loop : s.acceptStop.loop = (if s.job = .tick then s.loop else false) := rfl
@[simp] theorem State.acceptStop_cancel : s.acceptStop.cancel = true := rfl
@[simp] theorem State.acceptStop_tarm : s.acceptStop.tarm = false := rfl
@[simp] theorem State.acceptStop_tmr : s.acceptStop.tmr = 0#7 := rfl
@[simp] theorem State.acceptStop_job : s.acceptStop.job = s.job := rfl
@[simp] theorem State.acceptStop_step : s.acceptStop.step = s.step := rfl
@[simp] theorem State.acceptStop_reqOut : s.acceptStop.reqOut = s.reqOut := rfl
@[simp] theorem State.acceptStop_pwrdnPend : s.acceptStop.pwrdnPend = true := rfl
@[simp] theorem State.acceptStop_hostPend : s.acceptStop.hostPend = s.hostPend := rfl
@[simp] theorem State.acceptStop_dig : s.acceptStop.dig = s.dig := rfl
@[simp] theorem State.acceptStop_fatal : s.acceptStop.fatal = s.fatal := rfl
@[simp] theorem State.acceptStop_err : s.acceptStop.err = s.err := rfl
@[simp] theorem State.acceptStop_errStep : s.acceptStop.errStep = s.errStep := rfl
@[simp] theorem State.acceptStop_defect : s.acceptStop.defect = s.defect := rfl
@[simp] theorem State.acceptStop_warnSd : s.acceptStop.warnSd = s.warnSd := rfl
@[simp] theorem State.acceptStop_warnCl : s.acceptStop.warnCl = s.warnCl := rfl
@[simp] theorem State.acceptStop_rsp : s.acceptStop.rsp = some .ok := rfl
@[simp] theorem State.acceptStop_evt : s.acceptStop.evt = s.evt := rfl
@[simp] theorem State.acceptStop_dout : s.acceptStop.dout = s.dout := rfl
@[simp] theorem State.acceptStop_chip : s.acceptStop.chip = s.chip := rfl
@[simp] theorem State.acceptStop_hist : s.acceptStop.hist = .rsp .ok :: s.hist := rfl
@[simp] theorem State.acceptStop_moves : s.acceptStop.moves = s.moves := rfl
@[simp] theorem State.acceptStop_draws : s.acceptStop.draws = s.draws := rfl

/-! ### applyReset -/

@[simp] theorem State.applyReset_cfg : s.applyReset.cfg = s.cfg := rfl
@[simp] theorem State.applyReset_dstate : s.applyReset.dstate = .uninit := rfl
@[simp] theorem State.applyReset_dead : s.applyReset.dead = false := rfl
@[simp] theorem State.applyReset_conn : s.applyReset.conn = false := rfl
@[simp] theorem State.applyReset_count : s.applyReset.count = BitVec.ofInt 16 s.cfg.countInit := rfl
@[simp] theorem State.applyReset_loop : s.applyReset.loop = false := rfl
@[simp] theorem State.applyReset_cancel : s.applyReset.cancel = false := rfl
@[simp] theorem State.applyReset_tarm : s.applyReset.tarm = false := rfl
@[simp] theorem State.applyReset_tmr : s.applyReset.tmr = 0#7 := rfl
@[simp] theorem State.applyReset_job : s.applyReset.job = .idle := rfl
@[simp] theorem State.applyReset_step : s.applyReset.step = 0#3 := rfl
@[simp] theorem State.applyReset_reqOut : s.applyReset.reqOut = none := rfl
@[simp] theorem State.applyReset_pwrdnPend : s.applyReset.pwrdnPend = false := rfl
@[simp] theorem State.applyReset_hostPend : s.applyReset.hostPend = .nothing := rfl
@[simp] theorem State.applyReset_dig : s.applyReset.dig = { d0 := 0#4, d1 := 0#4, d2 := 0#4, d3 := 0#4 } := rfl
@[simp] theorem State.applyReset_fatal : s.applyReset.fatal = false := rfl
@[simp] theorem State.applyReset_err : s.applyReset.err = .ok := rfl
@[simp] theorem State.applyReset_errStep : s.applyReset.errStep = 0#3 := rfl
@[simp] theorem State.applyReset_defect : s.applyReset.defect = false := rfl
@[simp] theorem State.applyReset_warnSd : s.applyReset.warnSd = false := rfl
@[simp] theorem State.applyReset_warnCl : s.applyReset.warnCl = false := rfl
@[simp] theorem State.applyReset_rsp : s.applyReset.rsp = none := rfl
@[simp] theorem State.applyReset_evt : s.applyReset.evt = none := rfl
@[simp] theorem State.applyReset_dout : s.applyReset.dout = none := rfl
@[simp] theorem State.applyReset_chip : s.applyReset.chip = s.chip := rfl
@[simp] theorem State.applyReset_hist : s.applyReset.hist = .rst :: s.hist := rfl
@[simp] theorem State.applyReset_moves : s.applyReset.moves = s.moves := rfl
@[simp] theorem State.applyReset_draws : s.applyReset.draws = s.draws := rfl

/-! ### taken -/

@[simp] theorem State.taken_cfg : s.taken.cfg = s.cfg := by unfold State.taken; split <;> rfl
@[simp] theorem State.taken_dstate : s.taken.dstate = s.dstate := by unfold State.taken; split <;> rfl
@[simp] theorem State.taken_dead : s.taken.dead = s.dead := by unfold State.taken; split <;> rfl
@[simp] theorem State.taken_conn : s.taken.conn = s.conn := by unfold State.taken; split <;> rfl
@[simp] theorem State.taken_count : s.taken.count = s.count := by unfold State.taken; split <;> rfl
@[simp] theorem State.taken_loop : s.taken.loop = s.loop := by unfold State.taken; split <;> rfl
@[simp] theorem State.taken_cancel : s.taken.cancel = s.cancel := by unfold State.taken; split <;> rfl
@[simp] theorem State.taken_tarm : s.taken.tarm = s.tarm := by unfold State.taken; split <;> rfl
@[simp] theorem State.taken_tmr : s.taken.tmr = s.tmr := by unfold State.taken; split <;> rfl
@[simp] theorem State.taken_job : s.taken.job = s.job := by unfold State.taken; split <;> rfl
@[simp] theorem State.taken_step : s.taken.step = s.step := by unfold State.taken; split <;> rfl
@[simp] theorem State.taken_reqOut : s.taken.reqOut = s.reqOut := by unfold State.taken; split <;> rfl
@[simp] theorem State.taken_pwrdnPend : s.taken.pwrdnPend = s.pwrdnPend := by unfold State.taken; split <;> rfl
@[simp] theorem State.taken_hostPend : s.taken.hostPend = s.hostPend := by unfold State.taken; split <;> rfl
@[simp] theorem State.taken_dig : s.taken.dig = s.dig := by unfold State.taken; split <;> rfl
@[simp] theorem State.taken_fatal : s.taken.fatal = s.fatal := by unfold State.taken; split <;> rfl
@[simp] theorem State.taken_err : s.taken.err = s.err := by unfold State.taken; split <;> rfl
@[simp] theorem State.taken_errStep : s.taken.errStep = s.errStep := by unfold State.taken; split <;> rfl
@[simp] theorem State.taken_defect : s.taken.defect = s.defect := by unfold State.taken; split <;> rfl
@[simp] theorem State.taken_warnSd : s.taken.warnSd = s.warnSd := by unfold State.taken; split <;> rfl
@[simp] theorem State.taken_warnCl : s.taken.warnCl = s.warnCl := by unfold State.taken; split <;> rfl
@[simp] theorem State.taken_rsp : s.taken.rsp = none := by unfold State.taken; split <;> rfl
@[simp] theorem State.taken_evt : s.taken.evt = none := by unfold State.taken; split <;> rfl
@[simp] theorem State.taken_dout : s.taken.dout = none := by unfold State.taken; split <;> rfl
@[simp] theorem State.taken_chip : s.taken.chip = s.chip := by unfold State.taken; split <;> rfl
@[simp] theorem State.taken_hist : s.taken.hist = s.hist := by unfold State.taken; split <;> rfl

/-! ### raiseError, the fields no error writes -/

@[simp] theorem State.raiseError_cfg (c : Code) (k : BitVec 3) : (s.raiseError c k).cfg = s.cfg := by cases c <;> rfl
@[simp] theorem State.raiseError_dstate (c : Code) (k : BitVec 3) : (s.raiseError c k).dstate = s.dstate := by cases c <;> rfl
@[simp] theorem State.raiseError_conn (c : Code) (k : BitVec 3) : (s.raiseError c k).conn = s.conn := by cases c <;> rfl
@[simp] theorem State.raiseError_count (c : Code) (k : BitVec 3) : (s.raiseError c k).count = s.count := by cases c <;> rfl
@[simp] theorem State.raiseError_loop (c : Code) (k : BitVec 3) : (s.raiseError c k).loop = s.loop := by cases c <;> rfl
@[simp] theorem State.raiseError_cancel (c : Code) (k : BitVec 3) : (s.raiseError c k).cancel = s.cancel := by cases c <;> rfl
@[simp] theorem State.raiseError_tarm (c : Code) (k : BitVec 3) : (s.raiseError c k).tarm = s.tarm := by cases c <;> rfl
@[simp] theorem State.raiseError_tmr (c : Code) (k : BitVec 3) : (s.raiseError c k).tmr = s.tmr := by cases c <;> rfl
@[simp] theorem State.raiseError_step (c : Code) (k : BitVec 3) : (s.raiseError c k).step = s.step := by cases c <;> rfl
@[simp] theorem State.raiseError_reqOut (c : Code) (k : BitVec 3) : (s.raiseError c k).reqOut = s.reqOut := by cases c <;> rfl
@[simp] theorem State.raiseError_pwrdnPend (c : Code) (k : BitVec 3) : (s.raiseError c k).pwrdnPend = s.pwrdnPend := by cases c <;> rfl
@[simp] theorem State.raiseError_hostPend (c : Code) (k : BitVec 3) : (s.raiseError c k).hostPend = s.hostPend := by cases c <;> rfl
@[simp] theorem State.raiseError_dig (c : Code) (k : BitVec 3) : (s.raiseError c k).dig = s.dig := by cases c <;> rfl
@[simp] theorem State.raiseError_rsp (c : Code) (k : BitVec 3) : (s.raiseError c k).rsp = s.rsp := by cases c <;> rfl
@[simp] theorem State.raiseError_dout (c : Code) (k : BitVec 3) : (s.raiseError c k).dout = s.dout := by cases c <;> rfl
@[simp] theorem State.raiseError_chip (c : Code) (k : BitVec 3) : (s.raiseError c k).chip = s.chip := by cases c <;> rfl
@[simp] theorem State.raiseError_moves (c : Code) (k : BitVec 3) : (s.raiseError c k).moves = s.moves := by cases c <;> rfl
@[simp] theorem State.raiseError_draws (c : Code) (k : BitVec 3) : (s.raiseError c k).draws = s.draws := by cases c <;> rfl

end Sys2Proof.Machine
end

