-- ==== Sys2Proof/Laws/Ops.lean ====
section
/-! SUPPORT. One lemma for each shared operation: what it answers, and what a job's continuation leaves alone. -/

namespace Sys2Proof.Machine

/-! ### Issue and answer -/

/-- An enabled issue presents the request. -/
theorem issue_next (s : State) (r : Request) (h1 : s.reqOut = none) (h2 : s.namedRequest.isSome = true)
    (h3 : r.connFault s.conn = none) : s.issue r = .next (s.present r) := by
  simp [State.issue, State.issueEnabled, h1, h2, h3]

/-- An enabled issue whose CONN requirement is broken faults. -/
theorem issue_fault (s : State) (r : Request) (f : Fault) (h1 : s.reqOut = none) (h2 : s.namedRequest.isSome = true)
    (h3 : r.connFault s.conn = some f) : s.issue r = .fault f := by
  simp [State.issue, State.issueEnabled, h1, h2, h3]

/-- With a request outstanding nothing is issued. -/
theorem issue_outstanding (s : State) (r : Request) (h : s.reqOut.isSome = true) : s.issue r = .next s := by
  obtain ⟨q, hq⟩ := Option.isSome_iff_exists.1 h
  simp [State.issue, State.issueEnabled, hq]

/-- Everything an issue can answer. -/
theorem issue_cases (s : State) (r : Request) :
    s.issue r = .next s ∨ (s.reqOut = none ∧ s.issue r = .next (s.present r)) ∨
      (s.reqOut = none ∧ ∃ f, s.issue r = .fault f) := by
  unfold State.issue
  by_cases he : s.issueEnabled = true
  · have hr : s.reqOut = none := by
      simp only [State.issueEnabled, Bool.and_eq_true, Option.isNone_iff_eq_none] at he
      exact he.1
    rw [if_pos he]
    split
    · exact .inr (.inr ⟨hr, _, rfl⟩)
    · exact .inr (.inl ⟨hr, rfl⟩)
  · rw [if_neg he]
    exact .inl rfl

/-- An answer to a request the job names runs the job's continuation. -/
theorem agentStep_answer (s : State) (r : Request) (ok : Bool) (h1 : s.reqOut = some r)
    (h2 : s.namedRequest.isSome = true) :
    s.agentStep (.answer ok) = .next ((s.release r ok).continueJob ok) := by
  simp [State.agentStep, State.fetch, State.otherMove, State.busAnswer, h1, h2]

/-! ### Datapath results -/

/-- A datapath result where SEQ may step. -/
theorem returnValue_ok (s : State) (d : DataOut) (h1 : s.reqOut = none) (h2 : s.job ≠ .halt) :
    s.returnValue (.ok d) = .next (s.output d) := by
  simp [State.returnValue, State.seqFree, h1, h2]

/-- A datapath error where SEQ may step. -/
theorem returnValue_error (s : State) (c : Code) (h1 : s.reqOut = none) (h2 : s.job ≠ .halt) :
    s.returnValue (.error c) = .next (s.raiseError c s.step) := by
  simp [State.returnValue, State.seqFree, h1, h2]

/-! ### What a continuation leaves alone -/

/-- The fields no continuation of an answered request writes. -/
theorem continueJob_frame (s : State) (ok : Bool) :
    (s.continueJob ok).cfg = s.cfg ∧ (s.continueJob ok).chip = s.chip ∧ (s.continueJob ok).reqOut = s.reqOut ∧
    (s.continueJob ok).dig = s.dig ∧ (s.continueJob ok).defect = s.defect ∧ (s.continueJob ok).dout = s.dout ∧
    (s.continueJob ok).moves = s.moves ∧ (s.continueJob ok).draws = s.draws ∧
    (s.continueJob ok).pwrdnPend = s.pwrdnPend := by
  unfold State.continueJob
  cases s.job
  · simp
  · unfold State.openAnswered
    cases ok <;> simp [State.raiseError]
  · unfold State.cfgAnswered
    cases ok <;> by_cases h : s.step = 2#3 <;> simp [State.raiseError, h]
  · unfold State.tickAnswered State.endTick
    cases ok <;> by_cases h : s.step = 4#3 <;> cases hc : s.cancel <;> simp [State.raiseError, h]
  · unfold State.pwrdnAnswered
    cases ok <;> by_cases h : s.step = 0#3 <;> simp [State.raiseError, h]
  · unfold State.closeAnswered
    cases ok <;> simp [State.raiseError]
  · simp

/-- The check at the top of a tick writes LOOP, JOB, STEP and the latches, or raises the defect. -/
theorem tickTop_frame (s : State) :
    s.tickTop.cfg = s.cfg ∧ s.tickTop.chip = s.chip ∧ s.tickTop.reqOut = s.reqOut ∧ s.tickTop.dstate = s.dstate ∧
    s.tickTop.conn = s.conn ∧ s.tickTop.count = s.count ∧ s.tickTop.hostPend = s.hostPend ∧
    s.tickTop.pwrdnPend = s.pwrdnPend ∧ s.tickTop.rsp = s.rsp ∧ s.tickTop.moves = s.moves ∧
    s.tickTop.draws = s.draws := by
  unfold State.tickTop
  split
  · simp
  · split
    · simp
    · split
      · simp
      · rename_i c hc
        unfold formatDigits at hc
        split at hc <;> cases hc
        simp [State.raiseError]

end Sys2Proof.Machine
end

