-- ==== Sys2Proof/Laws/Step.lean ====
section
/-! SUPPORT. Everything a step can do, said once: `Trans`, with the guards, and the lemma that each agent's move and each
step is one of its cases. -/

namespace Sys2Proof.Machine

/-- The transitions of the block, each with its guard, by the move that makes them. -/
inductive Trans (s : State) : Move → State → Prop where
  /-- No step of the moving agent is enabled. -/
  | stay (m : Move) : Trans s m s
  | acceptOpen (op : BitVec 3) : s.cmdReady = true → s.dead = false → s.dstate = .uninit →
      Trans s (.host op) { s with hostPend := .opening }
  | acceptStart (op : BitVec 3) : s.cmdReady = true → s.dead = false → s.dstate = .ready → s.fatal = false →
      Trans s (.host op) { s with hostPend := .starting }
  | acceptClose (op : BitVec 3) : s.cmdReady = true → s.dead = false → s.dstate = .ready ∨ s.dstate = .stopped →
      Trans s (.host op) { s with hostPend := .closing }
  | acceptStop (op : BitVec 3) : s.cmdReady = true → s.dead = false → s.dstate = .running →
      Trans s (.host op) s.acceptStop
  | respond (op : BitVec 3) (c : Code) : s.cmdReady = true → c = .ok ∨ c = .illegalOperation →
      Trans s (.host op) (s.respond c)
  | strobe : s.tarm = true → s.tmr ≠ 0#7 → Trans s .strobe { s with tmr := s.tmr - 1#7 }
  | startTick : s.reqOut = none → s.job = .idle → s.pwrdnPend = false → s.hostPend = .nothing → s.tickDue = true →
      Trans s .seq s.startTick
  | tickTop : s.reqOut = none → s.job = .tick → s.step = 0#3 → Trans s .seq s.tickTop
  | muxDefect (i : BitVec 2) (c : Code) : s.reqOut = none → s.job = .tick → tickPosition s.step = some i →
      muxDigit s.cfg.segRom s.dig i = .error c → Trans s .seq (s.raiseError c s.step)
  | issue (r : Request) : s.reqOut = none → s.namedRequest = some r → r.connFault s.conn = none →
      Trans s .seq (s.present r)
  | startPwrdn : s.reqOut = none → s.job = .idle → s.pwrdnPend = true →
      Trans s .seq (State.enterJob { s with pwrdnPend := false } .pwrdn)
  | startOpen : s.reqOut = none → s.job = .idle → s.pwrdnPend = false → s.hostPend = .opening →
      Trans s .seq (s.enterJob .opening)
  | startCfg : s.reqOut = none → s.job = .idle → s.pwrdnPend = false → s.hostPend = .starting →
      Trans s .seq (s.enterJob .cfg)
  | startClose : s.reqOut = none → s.job = .idle → s.pwrdnPend = false → s.hostPend = .closing →
      Trans s .seq (s.enterJob .closing)
  | answer (r : Request) (ok : Bool) : s.reqOut = some r → s.namedRequest.isSome = true →
      Trans s (.answer ok) ((s.release r ok).continueJob ok)
  | withdraw (r : Request) (ok : Bool) : s.reqOut = some r → s.namedRequest = none →
      Trans s (.answer ok) (s.release r ok)
  | reset : Trans s .rst s.applyReset

/-- Everything the dispatch table answers, with the state it answers it in. -/
theorem action_cases (s : State) (c : Command) :
    s.action c = .noop ∨ s.action c = .illegal ∨
    (s.action c = .accept .opening ∧ c = .opening ∧ s.dead = false ∧ s.dstate = .uninit) ∨
    (s.action c = .accept .starting ∧ c = .starting ∧ s.dead = false ∧ s.dstate = .ready ∧ s.fatal = false) ∨
    (s.action c = .accept .closing ∧ c = .closing ∧ s.dead = false ∧ (s.dstate = .ready ∨ s.dstate = .stopped)) ∨
    (s.action c = .stop ∧ c = .stopping ∧ s.dead = false ∧ s.dstate = .running) := by
  unfold State.action
  cases hs : s.dstate <;> cases hd : s.dead <;> cases hf : s.fatal <;> cases c <;> simp

theorem command_trans (s : State) (c : Command) (op : BitVec 3) : Trans s (.host op) (s.command c) := by
  unfold State.command
  split
  · rename_i hr
    rcases action_cases s c with h | h | ⟨h, -, h1, h2⟩ | ⟨h, -, h1, h2, h3⟩ | ⟨h, -, h1, h2⟩ | ⟨h, -, h1, h2⟩ <;>
      simp only [h]
    · exact .respond op _ hr (.inl rfl)
    · exact .respond op _ hr (.inr rfl)
    · exact .acceptOpen op hr h1 h2
    · exact .acceptStart op hr h1 h2 h3
    · exact .acceptClose op hr h1 h2
    · exact .acceptStop op hr h1 h2
  · exact .stay _

theorem seqFree_iff (s : State) : s.seqFree = true ↔ s.reqOut = none ∧ s.job ≠ .halt := by
  simp [State.seqFree]

theorem tickMayStart_iff (s : State) :
    s.tickMayStart = true ↔ s.job = .idle ∧ s.pwrdnPend = false ∧ s.hostPend = .nothing ∧ s.tickDue = true := by
  simp [State.tickMayStart, and_assoc]

theorem selectJob_trans (s : State) : Trans s .seq s.selectJob := by
  unfold State.selectJob
  split
  · rename_i h
    simp only [Bool.and_eq_true, seqFree_iff, beq_iff_eq] at h
    obtain ⟨⟨hr, -⟩, hj⟩ := h
    split
    · exact .startPwrdn hr hj (by assumption)
    · rename_i hp
      have hp' : s.pwrdnPend = false := by simpa using hp
      split
      · exact .startOpen hr hj hp' (by assumption)
      · exact .startCfg hr hj hp' (by assumption)
      · exact .startClose hr hj hp' (by assumption)
      · exact .stay _
  · exact .stay _

theorem busAnswer_trans (s : State) (ok : Bool) : Trans s (.answer ok) (s.busAnswer ok) := by
  unfold State.busAnswer
  split
  · exact .stay _
  · split
    · exact .answer _ _ (by assumption) (by assumption)
    · exact .withdraw _ _ (by assumption) (by simpa using ‹¬s.namedRequest.isSome = true›)

/-- The issue of the request the job names. -/
theorem issue_trans {s t : State} {r : Request} (hn : s.namedRequest = some r) (h : s.issue r = .next t) :
    Trans s .seq t := by
  unfold State.issue at h
  split at h
  · rename_i he
    simp only [State.issueEnabled, Bool.and_eq_true, Option.isNone_iff_eq_none] at he
    split at h <;> cases h
    exact .issue r he.1 hn (by assumption)
  · cases h
    exact .stay _

/-- TICK where the TICK job names no request, or where none runs. -/
theorem execTick_trans {s t : State} (hn : s.job = .tick → s.namedRequest = none) (h : execTick s = .next t) :
    Trans s .seq t := by
  unfold execTick at h
  split at h
  · rename_i hf
    obtain ⟨hr, -⟩ := (seqFree_iff s).1 hf
    split at h
    · rename_i hj
      split at h
      · cases h
        exact .tickTop hr hj (by assumption)
      · split at h
        · cases h
          exact .stay _
        · rename_i i hi
          split at h
          · rename_i rv hm
            have := hn hj
            simp [State.namedRequest, hj, hi, hm] at this
          · cases h
            exact .muxDefect i _ hr hj hi (by assumption)
    · split at h
      · rename_i hm
        cases h
        obtain ⟨h1, h2, h3, h4⟩ := (tickMayStart_iff s).1 hm
        exact .startTick hr h1 h2 h3 h4
      · cases h
        exact .stay _
  · cases h
    exact .stay _

/-- One move of one agent is one transition. -/
theorem agentStep_trans {s t : State} {m : Move} (hc : s.cfg.wf = true) (h : s.agentStep m = .next t) :
    Trans s m t := by
  unfold State.agentStep at h
  cases m with
  | host op =>
    simp only [State.fetch, decode] at h
    unfold decodeCommand at h
    repeat' split at h
    all_goals
      cases h
      exact command_trans s _ _
  | strobe =>
    simp only [State.fetch, decode, exec, execStrobe] at h
    split at h
    · rename_i hs
      simp only [Bool.and_eq_true, bne_iff_ne, ne_eq] at hs
      cases h
      exact .strobe hs.1 hs.2
    · cases h
      exact .stay _
  | answer ok =>
    simp only [State.fetch] at h
    cases h
    exact busAnswer_trans s ok
  | rst =>
    simp only [State.fetch] at h
    cases h
    exact .reset
  | seq =>
    simp only [State.fetch, State.seqFetch] at h
    by_cases hf : s.seqFree = true
    · simp only [hf, if_true] at h
      cases hn : s.namedRequest with
      | some r =>
        obtain ⟨i, hd, he⟩ := exec_of_namedRequest s r hc hn
        simp only [hn, hd, he] at h
        exact issue_trans hn h
      | none =>
        simp only [hn] at h
        by_cases ht : s.job = .tick ∨ s.tickMayStart = true
        · simp only [ht, if_true, decode, exec] at h
          exact execTick_trans (fun _ => hn) h
        · simp only [ht, if_false] at h
          cases h
          exact selectJob_trans s
    · simp only [hf] at h
      cases h
      exact selectJob_trans s

/-- One step of the machine is one transition of the state without its next move. -/
theorem step_trans {s t : State} (h : step s = .next t) : s.cfg.wf = true ∧ Trans s.taken s.nextMove t := by
  unfold step at h
  split at h
  · rename_i hc
    exact ⟨hc, agentStep_trans (by simpa using hc) h⟩
  · cases h

end Sys2Proof.Machine
end

