-- ==== Sys2Proof/Tests/Slice0.lean ====
section
/-! SUPPORT. Tests: ill-formed terms, words written out from the spec's encodings, one step of each operation from the
vectors of spec/95_test_vectors.md, and for each statement with hypotheses a witness that meets them. -/

namespace Sys2Proof.Tests

open Sys2Proof.Machine

/-! ### Helpers -/

/-- The state an outcome gives, or the state after reset where it stops. -/
def after (o : Outcome) : State :=
  match o with
  | .next t => t
  | .fault _ => State.reset
  | .refused _ => State.reset

/-- The outcome is a next state. -/
def goesOn (o : Outcome) : Bool :=
  match o with
  | .next _ => true
  | .fault _ => false
  | .refused _ => false

theorem next_after {o : Outcome} (h : goesOn o = true) : o = .next (after o) := by
  cases o <;> simp_all [goesOn, after]

/-- The reason of a refusal. -/
def refusal (o : Outcome) : Option Refusal :=
  match o with
  | .next _ => none
  | .fault _ => none
  | .refused r => some r

/-- The state with these moves to come. -/
def withMoves (s : State) (ms : List Move) : State := { s with moves := ms }

/-- READY after OPEN (95_test_vectors.md STOP-2). -/
def ready : State := { State.reset with dstate := .ready, conn := true }

/-- RUNNING with a tick due. -/
def running : State := { ready with dstate := .running, loop := true, tarm := true }

/-- A tick at this step, with these latches. -/
def ticking (k : BitVec 3) (d : Digits) : State := { running with tarm := false, job := .tick, step := k, dig := d }

/-- STOPPED before the power-down. -/
def stopped : State := { ready with dstate := .stopped, cancel := true, pwrdnPend := true }

/-- A job at this step. -/
def atJob (s : State) (j : Job) (k : BitVec 3) : State := { s with job := j, step := k }

/-- The OPEN job. -/
def opening : State := { atJob State.reset .opening 0#3 with hostPend := .opening }

/-- The CFG job. -/
def configuring (k : BitVec 3) : State := { atJob ready .cfg k with hostPend := .starting }

/-- The PWRDN job. -/
def poweringDown (k : BitVec 3) : State := { atJob stopped .pwrdn k with pwrdnPend := false }

/-- The CLOSE job. -/
def closing : State := { atJob ready .closing 0#3 with hostPend := .closing }

/-- Closed, or dead. -/
def closed : State := { State.reset with dstate := .closed }

def dead : State := { State.reset with dead := true, fatal := true, err := .busUnavailable }

/-- Halted by a defect. -/
def halted : State := { running with tarm := false, job := .halt, defect := true, fatal := true, err := .invalidDigit }

/-- The request its job names is on the port. -/
def outstandingAt (s : State) : State := { s with reqOut := s.namedRequest }

/-- The latches [1,2,3,4]. -/
def d1234 : Digits := { d0 := 1#4, d1 := 2#4, d2 := 3#4, d3 := 4#4 }

/-- The latches [0,0,4,2]. -/
def d0042 : Digits := { d0 := 0#4, d1 := 0#4, d2 := 4#4, d3 := 2#4 }

/-! ### Well-formedness: what has no meaning is refused -/

theorem test_wf_odd_offset : Instr.wf (.writeReg16 0x01#8 0x003F#16) = false := by decide

theorem test_wf_offset_above : Instr.wf (.writeReg16 0x08#8 0x003F#16) = false := by decide

theorem test_wf_offset_last : Instr.wf (.writeReg16 0x06#8 0x003F#16) = true := by decide

theorem test_config_wf_bounds :
    Config.wf { defaultConfig with countInit := 10000 } = false ∧ Config.wf { defaultConfig with countInit := -2 } = false ∧
    Config.wf { defaultConfig with brightness := 16 } = false ∧ Config.wf { defaultConfig with blink := 4 } = false ∧
    Config.wf { defaultConfig with countInit := 9999, brightness := 0, blink := 3 } = true ∧
    Config.wf { defaultConfig with countInit := -1 } = true := by decide

theorem test_memory_wf_bounds :
    Memory.wf [(0, 1#8), (15, 2#8)] = true ∧ Memory.wf [(16, 1#8)] = false ∧
    Memory.wf [(2, 1#8), (2, 2#8)] = false ∧ Memory.wf [(3, 1#8), (1, 2#8)] = false := by decide

theorem test_decode_rejects :
    decode (.request 1#2 0xF1#8 0#16) = .error .commandOpcode ∧ decode (.request 1#2 0x21#8 1#16) = .error .commandData ∧
    decode (.request 2#2 0x05#8 0#16) = .error .registerOffset ∧ decode (.request 0#2 0x71#8 0#16) = .error .openFields ∧
    decode (.request 3#2 0x70#8 0#16) = .error .closeFields := by decide

/-! ### Decoding: words written from 30_encoding.md and opcode_table.json -/

/-- Format H, `cmd_op` = 001, 010, 011, 100, 000, 101, 110, 111 (R71, R72). -/
theorem test_decode_commands :
    decode (.cmd 0b001#3) = .ok .hostOpen ∧ decode (.cmd 0b010#3) = .ok .hostStart ∧
    decode (.cmd 0b011#3) = .ok .hostStop ∧ decode (.cmd 0b100#3) = .ok .hostClose ∧
    decode (.cmd 0b000#3) = .ok .reserved000 ∧ decode (.cmd 0b101#3) = .ok .reserved101 ∧
    decode (.cmd 0b110#3) = .ok .reserved110 ∧ decode (.cmd 0b111#3) = .ok .reserved111 := by decide

/-- Format C8, CMD-1 to CMD-9 of 95_test_vectors.md. -/
theorem test_decode_command_bytes :
    decode (.request 1#2 0x21#8 0#16) = .ok (.writeCmdSysSetup 0x1#4) ∧
    decode (.request 1#2 0x20#8 0#16) = .ok (.writeCmdSysSetup 0x0#4) ∧
    decode (.request 1#2 0x87#8 0#16) = .ok (.writeCmdDisplaySetup 0x7#4) ∧
    decode (.request 1#2 0x80#8 0#16) = .ok (.writeCmdDisplaySetup 0x0#4) ∧
    decode (.request 1#2 0xE7#8 0#16) = .ok (.writeCmdDimming 0x7#4) := by decide

/-- Formats W16 and D, section 2.5 of 95_test_vectors.md. -/
theorem test_decode_requests :
    decode (.request 2#2 0x02#8 0x2069#16) = .ok (.writeReg16 0x02#8 0x2069#16) ∧
    decode (.request 0#2 0x70#8 0x0000#16) = .ok .openDevice ∧
    decode (.request 3#2 0x00#8 0x0000#16) = .ok .closeDevice := by decide

/-- Formats I and X: no bits on a port but the index (R78, R79). -/
theorem test_decode_internal :
    decode .tickEvent = .ok .tick ∧ decode .strobePulse = .ok .strobe ∧ decode .formatCount = .ok .format ∧
    decode (.romIndex 0x9#4) = .ok (.encode 0x9#4) ∧ decode (.position 3#2) = .ok (.mux 3#2) := by decide

/-- Table words: `cmd_op` in the low bits; a command byte; `req_kind` in bits 1..0 of a longer word (log 3). -/
theorem test_decode_table_words :
    decodeTableWord 8 0x01 = some .hostOpen ∧ decodeTableWord 8 0x07 = some .reserved111 ∧
    decodeTableWord 8 0xE0 = some (.writeCmdDimming 0x0#4) ∧ decodeTableWord 8 0x30 = none ∧
    decodeTableWord 32 (0x70 * 4) = some .openDevice ∧ decodeTableWord 32 3 = some .closeDevice ∧
    decodeTableWord 32 (2 + 0x06 * 4 + 0x006F * 1024) = some (.writeReg16 0x06#8 0x006F#16) := by decide

/-- A word placed by `withFetchWord` is what the next step runs, from reset. -/
theorem test_fetch_word_host :
    (after (step (State.reset.withFetchWord 8 0x01))).hostPend = .opening ∧
    (after (step (State.reset.withFetchWord 8 0x05))).rsp = some .illegalOperation := by decide

theorem test_fetch_word_command_byte :
    (after (step (State.reset.withFetchWord 8 0x20))).reqOut = some { kind := 1#2, reg := 0x20#8, data := 0#16 } ∧
    (after (step (State.reset.withFetchWord 8 0x80))).reqOut = some { kind := 1#2, reg := 0x80#8, data := 0#16 } ∧
    (after (step (State.reset.withFetchWord 8 0xE0))).reqOut = some { kind := 1#2, reg := 0xE0#8, data := 0#16 } := by decide

theorem test_fetch_word_request :
    (after (step (State.reset.withFetchWord 32 (0x70 * 4)))).reqOut = some { kind := 0#2, reg := 0x70#8, data := 0#16 } ∧
    (after (step (State.reset.withFetchWord 32 3))).reqOut = some { kind := 3#2, reg := 0x00#8, data := 0#16 } ∧
    (after (step (State.reset.withFetchWord 32 (2 + 0x02 * 4 + 0x2069 * 1024)))).reqOut =
      some { kind := 2#2, reg := 0x02#8, data := 0x2069#16 } := by decide

/-! ### One step of each operation (95_test_vectors.md) -/

/-- P1: OPEN is accepted and `cmd_ready` falls. -/
theorem test_open : exec .hostOpen State.reset = .next { State.reset with hostPend := .opening } ∧
    State.cmdReady { State.reset with hostPend := .opening } = false := ⟨rfl, by decide⟩

/-- DSP-1: a second open is refused. -/
theorem test_open_twice : (after (exec .hostOpen ready)).rsp = some .illegalOperation ∧
    (after (exec .hostOpen ready)).hostPend = .nothing := by decide

/-- P1: START is accepted in READY. -/
theorem test_start : (after (exec .hostStart ready)).hostPend = .starting ∧ (after (exec .hostStart ready)).rsp = none := by
  decide

/-- DSP-3: no restart. -/
theorem test_start_stopped : (after (exec .hostStart stopped)).rsp = some .illegalOperation := by decide

/-- P3: STOP while a tick's third write is outstanding keeps LOOP; the status is 0x805B. -/
theorem test_stop_in_flight :
    (after (exec .hostStop (outstandingAt (ticking 3#3 d0042)))).status = 0x805B#16 ∧
    (after (exec .hostStop (outstandingAt (ticking 3#3 d0042)))).reqOut.isSome = true := by decide

/-- STOP-5: STOP on a dead instance answers OK and leaves the status at 0x01A0. -/
theorem test_stop_dead : (after (exec .hostStop dead)).rsp = some .ok ∧ (after (exec .hostStop dead)).status = 0x01A0#16 := by
  decide

/-- DSP-6: CLOSE is accepted in STOPPED with a tick in flight. -/
theorem test_close_in_flight :
    (after (exec .hostClose { ticking 2#3 d0042 with dstate := .stopped, cancel := true })).hostPend = .closing := by decide

/-- DSP-2: CLOSE in RUNNING is refused. -/
theorem test_close_running : (after (exec .hostClose running)).rsp = some .illegalOperation := by decide

/-- The columns 000, 101, 110 and 111 of the dispatch table (2.6; DSP-4). -/
theorem test_reserved :
    (after (exec .reserved000 closed)).rsp = some .illegalOperation ∧
    (after (exec .reserved101 dead)).rsp = some .illegalOperation ∧
    (after (exec .reserved110 running)).rsp = some .illegalOperation ∧
    (after (exec .reserved111 State.reset)).rsp = some .illegalOperation := by decide

/-- CMD-4, CMD-6, CMD-9: the byte on the request port. -/
theorem test_write_cmd :
    (after (exec (.writeCmdSysSetup 0x0#4) (poweringDown 0#3))).reqOut = some { kind := 1#2, reg := 0x20#8, data := 0#16 } ∧
    (after (exec (.writeCmdDisplaySetup 0x5#4) (configuring 1#3))).reqOut =
      some { kind := 1#2, reg := 0x85#8, data := 0#16 } ∧
    (after (exec (.writeCmdDimming 0x7#4) (configuring 2#3))).reqOut =
      some { kind := 1#2, reg := 0xE7#8, data := 0#16 } := by decide

/-- W16-5: the request and its payload, low byte first. -/
theorem test_write_reg16 :
    (after (exec (.writeReg16 0x02#8 0x2069#16) (ticking 2#3 d1234))).reqOut =
      some { kind := 2#2, reg := 0x02#8, data := 0x2069#16 } ∧
    Request.payload { kind := 2#2, reg := 0x02#8, data := 0x2069#16 } = [0x02#8, 0x69#8, 0x20#8] := by decide

theorem test_write_reg16_odd_offset :
    refusal (exec (.writeReg16 0x03#8 0#16) (ticking 2#3 d1234)) = some (.registerOffsetOutsideMap 0x03#8) := by decide

/-- Section 2.5: the connection requests. -/
theorem test_connection_requests :
    (after (exec .openDevice opening)).reqOut = some { kind := 0#2, reg := 0x70#8, data := 0#16 } ∧
    (after (exec .closeDevice closing)).reqOut = some { kind := 3#2, reg := 0x00#8, data := 0#16 } := by decide

/-- TCK-3: the sentinel tick writes nothing and ends the loop. -/
theorem test_tick_sentinel :
    (after (exec .tick { ticking 0#3 d0042 with count := 0xFFFF#16 })).job = .idle ∧
    (after (exec .tick { ticking 0#3 d0042 with count := 0xFFFF#16 })).loop = false ∧
    (after (exec .tick { ticking 0#3 d0042 with count := 0xFFFF#16 })).reqOut = none := by decide

/-- E5: the third write of the tick for 42 is 0x0066 to offset 0x04. -/
theorem test_tick_write :
    (after (exec .tick (ticking 3#3 d0042))).reqOut = some { kind := 2#2, reg := 0x04#8, data := 0x0066#16 } := by decide

/-- TMR-2 and TMR-4. -/
theorem test_strobe :
    (after (exec .strobe { running with tmr := 100#7 })).tmr = 99#7 ∧ (after (exec .strobe running)).tmr = 0#7 ∧
    (after (exec .strobe running)).tickDue = true := by decide

/-- FMT-5 and ERR-5. -/
theorem test_format :
    (after (exec .format { ready with count := 1234#16 })).dout = some (.digits d1234) ∧
    (after (exec .format { ready with count := 10000#16 })).faultCode = some .valueOutOfRange := by decide

/-- ENC-9 and ENC-10. -/
theorem test_encode :
    (after (exec (.encode 9#4) ready)).dout = some (.word 0x006F#16) ∧
    (after (exec (.encode 10#4) ready)).faultCode = some .invalidDigit := by decide

/-- MUX-1 and MUX-2. -/
theorem test_mux :
    (after (exec (.mux 1#2) { ready with dig := d1234 })).dout = some (.regWord 0x02#8 0x005B#16) ∧
    (after (exec (.mux 2#2) { ready with dig := d1234 })).dout = some (.regWord 0x04#8 0x004F#16) := by decide

/-! ### The steps that are no operation of the table -/

/-- ERR-1: status 0x01A0 and the response BUS_UNAVAILABLE. -/
theorem test_open_fails :
    (after ((outstandingAt opening).agentStep (.answer false))).status = 0x01A0#16 ∧
    (after ((outstandingAt opening).agentStep (.answer false))).rsp = some .busUnavailable := by decide

/-- CFG-OK: status 0x004A before the tick starts; CFG-F1: 0x0261 and errinfo 1. -/
theorem test_cfg_ends :
    (after ((outstandingAt (configuring 2#3)).agentStep (.answer true))).status = 0x004A#16 ∧
    (after ((outstandingAt (configuring 1#3)).agentStep (.answer false))).status = 0x0261#16 ∧
    (after ((outstandingAt (configuring 1#3)).agentStep (.answer false))).errinfo = 1#3 := by decide

/-- TCK-2: the tick for 0 leaves -1 and arms the timer. -/
theorem test_tick_ends :
    (after ((outstandingAt { ticking 4#3 d0042 with count := 0#16 }).agentStep (.answer true))).count = 0xFFFF#16 ∧
    (after ((outstandingAt { ticking 4#3 d0042 with count := 0#16 }).agentStep (.answer true))).tmr = 100#7 := by decide

/-- ERR-3: a failed write at step 2. -/
theorem test_tick_fails :
    (after ((outstandingAt (ticking 2#3 d1234)).agentStep (.answer false))).status = 0x0362#16 ∧
    (after ((outstandingAt (ticking 2#3 d1234)).agentStep (.answer false))).errinfo = 2#3 ∧
    (after ((outstandingAt (ticking 2#3 d1234)).agentStep (.answer false))).evt = some .displayWriteFailed := by decide

/-- PWR-2: the second byte still goes out. -/
theorem test_pwrdn_fails :
    (after ((outstandingAt (poweringDown 0#3)).agentStep (.answer false))).warnSd = true ∧
    (after ((outstandingAt (poweringDown 0#3)).agentStep (.answer false))).namedRequest =
      some { kind := 1#2, reg := 0x80#8, data := 0#16 } := by decide

/-- CLS-2. -/
theorem test_close_fails :
    (after ((outstandingAt closing).agentStep (.answer false))).status = 0x2004#16 ∧
    (after ((outstandingAt closing).agentStep (.answer false))).rsp = some .ok ∧
    (after ((outstandingAt closing).agentStep (.answer false))).evt = some .closeFailed := by decide

/-- RST-3: the request is withdrawn and the late answer has no effect. -/
theorem test_reset_withdraws :
    (after ((outstandingAt (ticking 1#3 d0042)).agentStep .rst)).reqOut = none ∧
    (after ((outstandingAt (ticking 1#3 d0042)).agentStep .rst)).countOut = 0x03E8#16 := by decide

/-! ### Witnesses: states that meet each statement's hypotheses -/

theorem witness_decodeAfterEncode :
    Instr.wf (.writeReg16 0x06#8 0xFFFF#16) = true ∧ Instr.wf (.encode 15#4) = true ∧ Instr.wf .tick = true := by decide

theorem witness_encodeAfterDecode :
    decode (.request 2#2 0x00#8 0#16) = .ok (.writeReg16 0x00#8 0#16) ∧ decode (.cmd 0b111#3) = .ok .reserved111 := by
  decide

theorem witness_otherOpcodesAndOffsets :
    (opcodeOf 0xD0#8 ≠ 0x2#4 ∧ opcodeOf 0xD0#8 ≠ 0x8#4 ∧ opcodeOf 0xD0#8 ≠ 0xE#4) ∧
    ((0x07#8 : Byte) ≠ 0x00#8 ∧ (0x07#8 : Byte) ≠ 0x02#8 ∧ (0x07#8 : Byte) ≠ 0x04#8 ∧ (0x07#8 : Byte) ≠ 0x06#8) := by
  decide

theorem witness_stepRuns :
    (withMoves State.reset [.host 1#3]).cfg.wf = true ∧
    (withMoves State.reset [.host 1#3]).taken.fetch (withMoves State.reset [.host 1#3]).nextMove = some (.cmd 1#3) ∧
    decode (.cmd 1#3) = .ok .hostOpen ∧ State.reset.moves = [] ∧
    (configuring 0#3).reqOut = none ∧ (configuring 0#3).namedRequest = some (cmdRequest 0x21#8) := by decide

theorem witness_illFormedConfiguration :
    (State.cfg { State.reset with cfg := { defaultConfig with countInit := 10000 } }).wf = false := by decide

theorem witness_rst :
    (withMoves halted [.rst]).cfg.wf = true ∧ (withMoves halted [.rst]).nextMove = .rst := by decide

theorem witness_openAccepted :
    State.reset.cmdReady = true ∧ State.reset.dstate = .uninit ∧ State.reset.dead = false := by decide

theorem witness_startAccepted :
    ready.cmdReady = true ∧ ready.dstate = .ready ∧ ready.dead = false ∧ ready.fatal = false := by decide

theorem witness_closeAccepted :
    (ready.cmdReady = true ∧ ready.dstate = .ready ∧ ready.dead = false) ∧
    (stopped.cmdReady = true ∧ stopped.dstate = .stopped ∧ stopped.dead = false) := by decide

theorem witness_stopInRunning :
    (running.cmdReady = true ∧ running.dstate = .running ∧ running.dead = false ∧ running.job ≠ .tick) ∧
    ((ticking 3#3 d0042).cmdReady = true ∧ (ticking 3#3 d0042).dstate = .running ∧ (ticking 3#3 d0042).dead = false ∧
      (ticking 3#3 d0042).job = .tick) := by decide

theorem witness_stopElsewhere :
    (dead.cmdReady = true ∧ dead.dstate ≠ .closed ∧ dead.dead = true) ∧
    (stopped.cmdReady = true ∧ stopped.dstate ≠ .closed ∧ stopped.dstate ≠ .running) := by decide

theorem witness_illegalCommands :
    (dead.cmdReady = true ∧ dead.dead = true) ∧ (ready.cmdReady = true ∧ ready.dstate ≠ .uninit) ∧
    (State.cmdReady { ready with fatal := true, err := .configWriteFailed } = true) ∧
    (running.cmdReady = true ∧ running.dstate ≠ .ready ∧ running.dstate ≠ .stopped) ∧
    (closed.cmdReady = true ∧ closed.dstate = .closed) := by decide

theorem witness_reservedOps : running.cmdReady = true ∧ dead.cmdReady = true ∧ closed.cmdReady = true := by decide

theorem witness_commandsWait :
    opening.cmdReady = false ∧ halted.cmdReady = false ∧
    ∃ t, step (withMoves opening [.seq]) = .next t ∧ ∀ op : BitVec 3, (withMoves opening [.seq]).nextMove ≠ .host op :=
  ⟨by decide, by decide, _, next_after (by decide), by decide⟩

theorem witness_writeCmd :
    (configuring 2#3).reqOut = none ∧ (configuring 2#3).namedRequest.isSome = true ∧ (configuring 2#3).conn = true := by
  decide

theorem witness_writeReg16 :
    (ticking 4#3 d1234).reqOut = none ∧ (ticking 4#3 d1234).namedRequest.isSome = true ∧ (ticking 4#3 d1234).conn = true ∧
    ((0xFF#8 : Byte) ≠ 0x00#8 ∧ (0xFF#8 : Byte) ≠ 0x02#8 ∧ (0xFF#8 : Byte) ≠ 0x04#8 ∧ (0xFF#8 : Byte) ≠ 0x06#8) := by
  decide

theorem witness_connectionRequests :
    (opening.reqOut = none ∧ opening.namedRequest.isSome = true ∧ opening.conn = false) ∧
    (closing.reqOut = none ∧ closing.namedRequest.isSome = true ∧ closing.conn = true) := by decide

theorem witness_brokenConnectionRequirement :
    (closing.reqOut = none ∧ closing.namedRequest.isSome = true ∧ closing.conn = true) ∧
    (opening.reqOut = none ∧ opening.namedRequest.isSome = true ∧ opening.conn = false) := by decide

theorem witness_noOperationWhileOutstanding : (outstandingAt (ticking 1#3 d1234)).reqOut.isSome = true := by decide

theorem witness_requestIsStable :
    (outstandingAt (ticking 1#3 d1234)).reqOut = some (regRequest 0x00#8 0x0006#16) ∧
    goesOn (step (withMoves (outstandingAt (ticking 1#3 d1234)) [.host 3#3])) = true ∧
    (withMoves (outstandingAt (ticking 1#3 d1234)) [.host 3#3]).nextMove ≠ .answer true ∧
    (withMoves (outstandingAt (ticking 1#3 d1234)) [.host 3#3]).nextMove ≠ .answer false ∧
    (withMoves (outstandingAt (ticking 1#3 d1234)) [.host 3#3]).nextMove ≠ .rst := by decide

theorem witness_strayAnswer : running.reqOut = none := by decide

theorem witness_jobsName :
    (opening.job = .opening ∧ opening.step = 0#3) ∧
    ((configuring 1#3).job = .cfg ∧ (configuring 1#3).step = 1#3 ∧ (configuring 1#3).cfg.blink ≤ 3) ∧
    ((configuring 2#3).job = .cfg ∧ (configuring 2#3).step = 2#3 ∧ (configuring 2#3).cfg.brightness ≤ 15) ∧
    ((poweringDown 0#3).job = .pwrdn ∧ (poweringDown 1#3).step = 1#3) ∧ (closing.job = .closing ∧ closing.step = 0#3) ∧
    ((ticking 0#3 d1234).job = .tick ∧ (ticking 0#3 d1234).step = 0#3) ∧ ready.job = .idle ∧ halted.job = .halt ∧
    ((configuring 0#3).job = .cfg ∧ (configuring 0#3).step = 0#3) := by decide

/-- The latches [1,2,3,4] at steps 1 and 4. -/
theorem witness_jobsName_tick :
    ((ticking 1#3 d1234).job = .tick ∧ (ticking 1#3 d1234).step.toNat = (0#2 : BitVec 2).toNat + 1 ∧
      [d1234.d0, d1234.d1, d1234.d2, d1234.d3][(0#2 : BitVec 2).toNat]? = some 1#4 ∧
      [defaultSegRom.w0, defaultSegRom.w1, defaultSegRom.w2, defaultSegRom.w3, defaultSegRom.w4, defaultSegRom.w5,
        defaultSegRom.w6, defaultSegRom.w7, defaultSegRom.w8, defaultSegRom.w9][(1#4 : Nibble).toNat]? =
        some 0x0006#16) ∧
    ((ticking 4#3 d1234).step.toNat = (3#2 : BitVec 2).toNat + 1 ∧
      [d1234.d0, d1234.d1, d1234.d2, d1234.d3][(3#2 : BitVec 2).toNat]? = some 4#4) := by decide

theorem witness_openJob :
    (outstandingAt opening).reqOut = some openRequest ∧ (outstandingAt opening).job = .opening ∧
    (outstandingAt opening).step = 0#3 := by decide

theorem witness_cfgJob :
    ((outstandingAt (configuring 0#3)).reqOut = some (cmdRequest 0x21#8) ∧ (outstandingAt (configuring 0#3)).job = .cfg ∧
      (outstandingAt (configuring 0#3)).step.toNat ≤ 2 ∧ (outstandingAt (configuring 0#3)).step ≠ 2#3) ∧
    ((outstandingAt (configuring 2#3)).reqOut = some (cmdRequest 0xEF#8) ∧ (outstandingAt (configuring 2#3)).job = .cfg ∧
      (outstandingAt (configuring 2#3)).step = 2#3) := by decide

theorem witness_pwrdnJob :
    ((outstandingAt (poweringDown 0#3)).reqOut = some (cmdRequest 0x20#8) ∧
      (outstandingAt (poweringDown 0#3)).job = .pwrdn ∧ (outstandingAt (poweringDown 0#3)).step = 0#3) ∧
    ((outstandingAt (poweringDown 1#3)).reqOut = some (cmdRequest 0x80#8) ∧
      (outstandingAt (poweringDown 1#3)).job = .pwrdn ∧ (outstandingAt (poweringDown 1#3)).step = 1#3) := by decide

theorem witness_closeJob :
    (outstandingAt closing).reqOut = some closeRequest ∧ (outstandingAt closing).job = .closing ∧
    (outstandingAt closing).step = 0#3 := by decide

theorem witness_tickJob :
    ((outstandingAt (ticking 1#3 d1234)).reqOut = some (regRequest 0x00#8 0x0006#16) ∧
      (outstandingAt (ticking 1#3 d1234)).job = .tick ∧ (outstandingAt (ticking 1#3 d1234)).namedRequest.isSome = true ∧
      (outstandingAt (ticking 1#3 d1234)).step ≠ 4#3) ∧
    ((outstandingAt (ticking 4#3 d1234)).reqOut = some (regRequest 0x06#8 0x0066#16) ∧
      (outstandingAt (ticking 4#3 d1234)).namedRequest.isSome = true ∧ (outstandingAt (ticking 4#3 d1234)).step = 4#3 ∧
      (outstandingAt (ticking 4#3 d1234)).cancel = false) ∧
    (State.cancel { outstandingAt (ticking 4#3 d1234) with cancel := true, dstate := .stopped } = true ∧
      (State.namedRequest { outstandingAt (ticking 4#3 d1234) with cancel := true, dstate := .stopped }).isSome = true) := by
  decide

theorem witness_seqSelects :
    (running.reqOut = none ∧ running.job = .idle ∧ running.loop = true ∧ running.tarm = true ∧ running.tmr = 0#7) ∧
    (stopped.reqOut = none ∧ stopped.job = .idle ∧ stopped.pwrdnPend = true) ∧
    (State.job { ready with hostPend := .starting } = .idle) := by decide

theorem witness_strobe :
    (State.tarm { running with tmr := 127#7 } = true ∧ 0 < (State.tmr { running with tmr := 127#7 }).toNat) ∧
    (State.tarm { running with tmr := 1#7 } = true ∧ 0 < (State.tmr { running with tmr := 1#7 }).toNat) ∧
    ready.tarm = false ∧ running.tmr = 0#7 := by decide

theorem witness_tickStarts :
    running.reqOut = none ∧ running.job = .idle ∧ running.pwrdnPend = false ∧ running.hostPend = .nothing ∧
    running.loop = true ∧ running.tarm = true ∧ running.tmr = 0#7 := by decide

/-- A tick at its check with this count. -/
def checking (c : Word) : State := { ticking 0#3 d0042 with count := c }

theorem witness_tickTop :
    ((checking 0#16).reqOut = none ∧ (checking 0#16).job = .tick ∧ (checking 0#16).step = 0#3) ∧
    (State.cancel { checking 0#16 with cancel := true } = true) ∧ (checking 0xFFFF#16).count.toInt < 0 ∧
    ((checking 0#16).cancel = false ∧ 0 ≤ (checking 0#16).count.toInt ∧ (checking 0#16).count.toInt ≤ 9999) ∧
    ((checking 9999#16).cancel = false ∧ 0 ≤ (checking 9999#16).count.toInt ∧ (checking 9999#16).count.toInt ≤ 9999) ∧
    ((checking 10000#16).cancel = false ∧ 9999 < (checking 10000#16).count.toInt) := by decide

theorem witness_tickWrites :
    ((ticking 1#3 d1234).cfg.wf = true ∧ (ticking 1#3 d1234).reqOut = none ∧ (ticking 1#3 d1234).conn = true ∧
      (ticking 1#3 d1234).job = .tick ∧ (ticking 1#3 d1234).step.toNat = (0#2 : BitVec 2).toNat + 1 ∧
      encodeDigit (ticking 1#3 d1234).cfg.segRom ((ticking 1#3 d1234).dig.at 0#2) = .ok 0x0006#16) ∧
    ((ticking 4#3 d1234).step.toNat = (3#2 : BitVec 2).toNat + 1 ∧
      encodeDigit (ticking 4#3 d1234).cfg.segRom ((ticking 4#3 d1234).dig.at 3#2) = .ok 0x0066#16) := by decide

/-- A latch that is no digit, at steps 1 and 4. -/
theorem witness_tickWrites_defect :
    ((ticking 1#3 { d1234 with d0 := 10#4 }).reqOut = none ∧ (ticking 1#3 { d1234 with d0 := 10#4 }).job = .tick ∧
      (ticking 1#3 { d1234 with d0 := 10#4 }).step.toNat = (0#2 : BitVec 2).toNat + 1 ∧
      [10#4, d1234.d1, d1234.d2, d1234.d3][(0#2 : BitVec 2).toNat]? = some (10#4 : Nibble)) ∧
    ((ticking 4#3 { d1234 with d3 := 15#4 }).step.toNat = (3#2 : BitVec 2).toNat + 1 ∧
      [d1234.d0, d1234.d1, d1234.d2, 15#4][(3#2 : BitVec 2).toNat]? = some (15#4 : Nibble)) ∧
    9 < (10#4 : Nibble).toNat ∧ 9 < (15#4 : Nibble).toNat := by decide

/-- RUNNING with the tick for 42 due, and the moves of a whole tick. -/
def wholeTick : State :=
  { running with
    count := 42#16
    moves := [.seq, .seq, .seq, .answer true, .seq, .answer true, .seq, .answer true, .seq, .answer true] }

theorem witness_tickShowsCount :
    wholeTick.cfg.wf = true ∧ wholeTick.reqOut = none ∧ wholeTick.conn = true ∧ wholeTick.job = .idle ∧
    wholeTick.pwrdnPend = false ∧ wholeTick.hostPend = .nothing ∧ wholeTick.loop = true ∧ wholeTick.tarm = true ∧
    wholeTick.tmr = 0#7 ∧ wholeTick.cancel = false ∧ 0 ≤ wholeTick.count.toInt ∧ wholeTick.count.toInt ≤ 9999 ∧
    wholeTick.moves = [.seq, .seq, .seq, .answer true, .seq, .answer true, .seq, .answer true, .seq, .answer true] := by
  decide

theorem witness_formatDigits :
    ((0 : Int) ≤ 0 ∧ (0 : Int) ≤ 9999) ∧ ((0 : Int) ≤ 9999 ∧ (9999 : Int) ≤ 9999) ∧ (-1 : Int) < 0 ∧ (9999 : Int) < 10000 := by
  decide

theorem witness_format :
    ready.reqOut = none ∧ ready.job ≠ .halt ∧ (0 ≤ ready.count.toInt ∧ ready.count.toInt ≤ 9999) ∧
    (State.count { ready with count := 0xFFFF#16 }).toInt < 0 ∧
    9999 < (State.count { ready with count := 10000#16 }).toInt := by decide

theorem witness_encode :
    ready.reqOut = none ∧ ready.job ≠ .halt ∧
    [0x003F#16, 0x0006#16, 0x005B#16, 0x004F#16, 0x0066#16, 0x006D#16, 0x007D#16, 0x0007#16, 0x007F#16,
      (0x006F#16 : Word)][(9#4 : Nibble).toNat]? = some 0x006F#16 ∧
    9 < (10#4 : Nibble).toNat := by decide

theorem witness_mux :
    (ticking 4#3 d1234).reqOut = none ∧ (ticking 4#3 d1234).job ≠ .halt ∧
    [d1234.d0, d1234.d1, d1234.d2, d1234.d3][(3#2 : BitVec 2).toNat]? = some 4#4 ∧
    [10#4, d1234.d1, d1234.d2, d1234.d3][(0#2 : BitVec 2).toNat]? = some (10#4 : Nibble) ∧ 9 < (10#4 : Nibble).toNat := by
  decide

theorem witness_decrement :
    (0 ≤ (0#16 : Word).toInt ∧ (0#16 : Word).toInt ≤ 9999) ∧
    (0 ≤ (9999#16 : Word).toInt ∧ (9999#16 : Word).toInt ≤ 9999) := by decide

theorem witness_displayRam :
    (outstandingAt (ticking 1#3 d1234)).reqOut = some (regRequest (regMap 0#2) 0x0006#16) ∧
    (outstandingAt (ticking 4#3 d1234)).reqOut = some (regRequest (regMap 3#2) 0x0066#16) := by decide

/-- For the answered and for the failed command. -/
theorem witness_answeredCommand :
    (outstandingAt (configuring 0#3)).reqOut = some (cmdRequest (0x2#4 ++ 0x1#4)) ∧
    (outstandingAt (configuring 1#3)).reqOut = some (cmdRequest (0x8#4 ++ 0x1#4)) ∧
    (outstandingAt (configuring 2#3)).reqOut = some (cmdRequest (0xE#4 ++ 0xF#4)) := by decide

theorem witness_onlyAnswers :
    goesOn (step (withMoves running [.rst])) = true ∧ (withMoves running [.rst]).nextMove ≠ .answer true ∧
    (withMoves running [.rst]).nextMove ≠ .answer false := by decide

theorem witness_initial :
    Config.wf { defaultConfig with countInit := -1 } = true ∧ Config.wf { defaultConfig with countInit := 9999 } = true ∧
    Memory.wf Chip.powerOn.ram = true := by decide

/-! #### States of the invariants -/

theorem running_inv : running.Inv := ⟨by decide, by decide, by decide, by decide, by decide, by decide⟩

theorem stopped_inv : stopped.Inv := ⟨by decide, by decide, by decide, by decide, by decide, by decide⟩

theorem closed_inv : closed.Inv := ⟨by decide, by decide, by decide, by decide, by decide, by decide⟩

theorem dead_inv : dead.Inv := ⟨by decide, by decide, by decide, by decide, by decide, by decide⟩

/-- A tick whose third write is outstanding. -/
theorem inFlight_inv : (outstandingAt (ticking 3#3 d0042)).Inv :=
  ⟨by decide, by decide, by decide, by decide, by decide, by decide⟩

/-- The moves do not matter to the invariant. -/
theorem withMoves_inv {s : State} (ms : List Move) (h : s.Inv) : (withMoves s ms).Inv :=
  ⟨h.config, h.r45, h.pending, h.loop, h.steps, h.chip⟩

theorem witness_invariant :
    ∃ s t, s.Inv ∧ step s = .next t ∧ t ≠ s :=
  ⟨withMoves running [.seq], _, withMoves_inv _ running_inv, next_after (by decide), by decide⟩

theorem witness_reachable : Reachable State.reset :=
  Reachable.start defaultConfig Chip.powerOn [] 0 (by decide) (by decide)

/-- The first tick's first write outstanding, with the history that led there: the trace of P1's parameters. -/
def firstWrite : State :=
  { outstandingAt (ticking 1#3 d0042) with
    cfg := { defaultConfig with countInit := 42 }
    count := 42#16
    hist :=
      [.issued (regRequest 0x00#8 0x003F#16), .rsp .ok, .answered true, .issued (cmdRequest 0xEF#8), .answered true,
        .issued (cmdRequest 0x81#8), .answered true, .issued (cmdRequest 0x21#8), .rsp .ok, .answered true,
        .issued openRequest, .rst] }

theorem firstWrite_inv (ms : List Move) : (withMoves firstWrite ms).Inv :=
  withMoves_inv ms ⟨by decide, by decide, by decide, by decide, by decide, by decide⟩

theorem witness_issueOrder :
    ∃ s t, s.OrderInv ∧ step s = .next t ∧ s.requests.length = 5 ∧ t ≠ s :=
  ⟨withMoves firstWrite [.answer true], _, ⟨firstWrite_inv _, by unfold inOrder; decide, by decide⟩,
    next_after (by decide), by decide, by decide⟩

theorem witness_countdown :
    ∃ s t, s.CountdownInv ∧ step s = .next t ∧ s.writesIssued = 1 ∧ t ≠ s :=
  ⟨withMoves firstWrite [.answer true], _, ⟨firstWrite_inv _, fun _ _ => by rfl, by decide⟩, next_after (by decide),
    by decide, by decide⟩

/-- A countdown from 0 that has come to -1. -/
def finished : State :=
  { ready with
    cfg := { defaultConfig with countInit := 0 }
    dstate := .running
    count := 0xFFFF#16
    hist :=
      [.answered true, .issued (regRequest 0x06#8 0x003F#16), .answered true, .issued (regRequest 0x04#8 0x003F#16),
        .answered true, .issued (regRequest 0x02#8 0x003F#16), .answered true, .issued (regRequest 0x00#8 0x003F#16)] }

theorem witness_finishedCountdown :
    finished.CountdownInv ∧ finished.count.toInt = -1 ∧ finished.err ≠ .displayWriteFailed ∧ finished.job ≠ .tick :=
  ⟨⟨⟨by decide, by decide, by decide, by decide, by decide, by decide⟩, fun h => absurd h (by decide), by decide⟩,
    by decide, by decide, by decide⟩

theorem witness_serial :
    ∃ s t, serial s.hist ∧ outstanding s.hist = s.reqOut ∧ step s = .next t ∧ s.reqOut.isSome = true :=
  ⟨withMoves firstWrite [.answer false], _, by simp [withMoves, firstWrite, serial, outstanding], by decide,
    next_after (by decide), by decide⟩

theorem witness_onlyKnownRequests :
    ∃ s t r, s.Inv ∧ step s = .next t ∧ t.reqOut = some r ∧ s.reqOut = none :=
  ⟨withMoves opening [.seq], _, openRequest,
    withMoves_inv _ ⟨by decide, by decide, by decide, by decide, by decide, by decide⟩, next_after (by decide),
    by decide, by decide⟩

theorem witness_driverState :
    (∃ s t, s.Inv ∧ step s = .next t ∧ s.nextMove ≠ .rst ∧ s.dstate = .running ∧ t.dstate = .stopped) ∧
    (∃ s t, s.Inv ∧ step s = .next t ∧ s.nextMove ≠ .rst ∧ s.dstate = .closed) :=
  ⟨⟨withMoves running [.host 3#3], _, withMoves_inv _ running_inv, next_after (by decide), by decide, by decide, by decide⟩,
    ⟨withMoves closed [.host 1#3], _, withMoves_inv _ closed_inv, next_after (by decide), by decide, by decide⟩⟩

theorem witness_onlyResetClears :
    ∃ s t, step s = .next t ∧ s.nextMove ≠ .rst ∧ s.Inv ∧ s.fatal = true :=
  ⟨withMoves dead [.host 3#3], _, next_after (by decide), by decide, withMoves_inv _ dead_inv, by decide⟩

theorem witness_noTickAfterStop :
    (∃ s t, s.Inv ∧ (s.dstate = .stopped ∨ s.dstate = .closed) ∧ step s = .next t ∧ s.nextMove ≠ .rst ∧ s.job ≠ .tick) ∧
    (∃ s t, s.Inv ∧ (s.dstate = .stopped ∨ s.dstate = .closed) ∧ step s = .next t ∧ s.nextMove ≠ .rst ∧ s.job = .tick ∧
      t.job ≠ .tick) :=
  ⟨⟨withMoves stopped [.seq], _, withMoves_inv _ stopped_inv, .inl (by decide), next_after (by decide), by decide,
      by decide⟩,
    ⟨withMoves { checking 7#16 with dstate := .stopped, cancel := true, pwrdnPend := true } [.seq], _,
      withMoves_inv _ ⟨by decide, by decide, by decide, by decide, by decide, by decide⟩, .inl (by decide),
      next_after (by decide), by decide, by decide, by decide⟩⟩

theorem witness_halt :
    ∃ s t, s.job = .halt ∧ step s = .next t ∧ s.nextMove ≠ .rst :=
  ⟨withMoves halted [.host 1#3], _, by decide, next_after (by decide), by decide⟩

theorem witness_responses :
    (∃ s t, s.Inv ∧ step s = .next t ∧ t.rsp = some .ok ∧ s.nextMove = .host 3#3) ∧
    (∃ s t, s.Inv ∧ step s = .next t ∧ s.hostPend ≠ .nothing ∧ t.hostPend = .nothing ∧ s.nextMove ≠ .rst) ∧
    (∃ s t, s.Inv ∧ step s = .next t ∧ t.evt = some .displayWriteFailed) :=
  ⟨⟨withMoves running [.host 3#3], _, withMoves_inv _ running_inv, next_after (by decide), by decide, by decide⟩,
    ⟨withMoves (outstandingAt closing) [.answer true], _,
      withMoves_inv _ ⟨by decide, by decide, by decide, by decide, by decide, by decide⟩, next_after (by decide),
      by decide, by decide, by decide⟩,
    ⟨withMoves (outstandingAt (ticking 3#3 d0042)) [.answer false], _, withMoves_inv _ inFlight_inv,
      next_after (by decide), by decide⟩⟩

end Sys2Proof.Tests
end

/-! ## The step and the jobs' transactions (00_scope.md R4, R13, R15) -/

section
namespace Sys2Proof.Machine

/-! ### The step, its next move and what the move fetches -/

theorem step_of_wf {s : State} (h : s.cfg.wf = true) : step s = s.taken.agentStep s.nextMove := if_pos h

theorem step_of_not_wf {s : State} (h : s.cfg.wf = false) : step s = .refused .configNotWellFormed :=
  if_neg (by simp [h])

theorem agentStep_of_decode {s : State} {m : Move} {w : PortWord} {i : Instr} (hf : s.fetch m = some w)
    (hd : decode w = .ok i) : s.agentStep m = exec i s := by
  simp [State.agentStep, hf, hd]

theorem nextMove_of_cons {s : State} {m : Move} {ms : List Move} (h : s.moves = m :: ms) : s.nextMove = m := by
  simp [State.nextMove, h]

theorem nextMove_of_nil {s : State} (h : s.moves = []) : s.nextMove = Config.freeMove s.draws := by
  simp [State.nextMove, h]

theorem taken_of_cons {s : State} {m : Move} {ms : List Move} (h : s.moves = m :: ms) :
    s.taken = State.beginStep { s with moves := ms } := by
  simp [State.taken, h]

theorem taken_of_nil {s : State} (h : s.moves = []) :
    s.taken = State.beginStep { s with draws := s.draws + 1 } := by
  simp [State.taken, h]

@[simp] theorem fetch_host (s : State) (op : BitVec 3) : s.fetch (.host op) = some (.cmd op) := rfl

@[simp] theorem fetch_strobe (s : State) : s.fetch .strobe = some .strobePulse := rfl

/-- A job that names a request is not halted, so SEQ is free to fetch it. -/
theorem fetch_seq_of_namedRequest {s : State} {r : Request} (hr : s.reqOut = none) (hn : s.namedRequest = some r) :
    s.fetch .seq = some r.word := by
  have hj : s.job ≠ .halt := fun h => by simp [namedRequest_of_halt s h] at hn
  have hf : s.seqFree = true := (seqFree_iff s).2 ⟨hr, hj⟩
  simp [State.fetch, State.seqFetch, hf, hn]

/-- Settles O6: each clause is the rule of the step, of its next move, or of what the move fetches. -/
theorem stepRunsTheDecodedOperation : Obligations.StepRunsTheDecodedOperation := by
  refine ⟨fun s hc => step_of_wf hc, fun s w i hc hf hd => ?_, fun s m ms hm => ?_, fun s hm => ?_,
    fetch_host, fetch_strobe, fun s r hr hn => fetch_seq_of_namedRequest hr hn⟩
  · rw [step_of_wf hc, agentStep_of_decode hf hd]
  · exact ⟨nextMove_of_cons hm, taken_of_cons hm⟩
  · exact ⟨nextMove_of_nil hm, taken_of_nil hm⟩

/-- Settles O7: `Config.wf` checks exactly the ranges of R15, and the step checks `Config.wf`. -/
theorem illFormedConfigurationIsRefused : Obligations.IllFormedConfigurationIsRefused :=
  ⟨fun c => (Config.wf_iff c).trans (by tauto), fun _ => step_of_not_wf⟩

/-! ### The request each job names -/

/-- DISP_ON_BYTE as a sum: BLINK stands in bits 2..1, over bits that are 0. -/
theorem dispOnByte_eq {c : Config} (h : c.blink ≤ 3) : dispOnByte c = BitVec.ofNat 8 (0x81 + 2 * c.blink) := by
  have sum : ∀ k ≤ 3, (0x80#8 ||| (BitVec.ofNat 8 k <<< 1) ||| 0x1#8) = BitVec.ofNat 8 (0x81 + 2 * k) := by decide
  exact sum _ h

/-- DIM_BYTE as a sum: BRIGHTNESS stands in bits 3..0, over bits that are 0. -/
theorem dimByte_eq {c : Config} (h : c.brightness ≤ 15) : dimByte c = BitVec.ofNat 8 (0xE0 + c.brightness) := by
  have sum : ∀ k ≤ 15, (0xE0#8 ||| BitVec.ofNat 8 k) = BitVec.ofNat 8 (0xE0 + k) := by decide
  exact sum _ h

/-- MUX by the latch at the position and the ROM word of its digit. -/
theorem muxDigit_of_getElem? {rom : SegRom} {dig : Digits} {i : BitVec 2} {d : Nibble} {w : Word}
    (hd : [dig.d0, dig.d1, dig.d2, dig.d3][i.toNat]? = some d) (hw : (romList rom)[d.toNat]? = some w) :
    muxDigit rom dig i = .ok (regMap i, w) := by
  have hat : dig.at i = d := Option.some.inj ((digits_at_eq dig i).symm.trans hd)
  simp [muxDigit, hat, encodeDigit_eq, hw]

section
variable {s : State}

theorem namedRequest_of_opening (hj : s.job = .opening) (hk : s.step = 0#3) : s.namedRequest = some openRequest := by
  simp [State.namedRequest, hj, hk]

theorem namedRequest_of_cfg (hj : s.job = .cfg) : s.namedRequest = (cfgByte s.cfg s.step).map cmdRequest := by
  simp [State.namedRequest, hj]

theorem namedRequest_of_pwrdn (hj : s.job = .pwrdn) : s.namedRequest = (pwrdnByte s.step).map cmdRequest := by
  simp [State.namedRequest, hj]

theorem namedRequest_of_closing (hj : s.job = .closing) (hk : s.step = 0#3) : s.namedRequest = some closeRequest := by
  simp [State.namedRequest, hj, hk]

/-- The top-of-tick check issues nothing. -/
theorem namedRequest_of_tickTop (hj : s.job = .tick) (hk : s.step = 0#3) : s.namedRequest = none := by
  simp [State.namedRequest, hj, hk, tickPosition]

end

/-- Settles O26, job by job: the CFG and PWRDN bytes by their step, a register write by what MUX gives at STEP - 1. -/
theorem jobsNameTheirTransactions : Obligations.JobsNameTheirTransactions := by
  intro s
  refine ⟨namedRequest_of_opening, ?cfg0, ?cfg1, ?cfg2, ?pwrdn0, ?pwrdn1, namedRequest_of_closing,
    namedRequest_of_tickTop, ?write, ?rest, by decide, by decide⟩
  case cfg0 =>
    intro hj hk
    rw [namedRequest_of_cfg hj, hk]
    rfl
  case cfg1 =>
    intro hj hk hb
    rw [namedRequest_of_cfg hj, hk, ← dispOnByte_eq hb]
    rfl
  case cfg2 =>
    intro hj hk hb
    rw [namedRequest_of_cfg hj, hk, ← dimByte_eq hb]
    rfl
  case pwrdn0 =>
    intro hj hk
    rw [namedRequest_of_pwrdn hj, hk]
    rfl
  case pwrdn1 =>
    intro hj hk
    rw [namedRequest_of_pwrdn hj, hk]
    rfl
  case write =>
    intro i d w hj hk hd hw
    have hpos : tickPosition s.step = some i := (tickPosition_eq_some _ _).2 hk
    rw [namedRequest_of_tick hj hpos (muxDigit_of_getElem? hd hw), regMap_eq]
    rfl
  case rest =>
    rintro (hj | hj)
    · exact namedRequest_of_idle s hj
    · exact namedRequest_of_halt s hj

end Sys2Proof.Machine
end

/-! ## Every step keeps the invariant (10_state.md R45) -/

section
namespace Sys2Proof.Machine

/-! ### Arithmetic of COUNT, STEP and the latches -/

/-- The decrement of a count that is not negative does not wrap (43_tick_timer.md R180). -/
theorem decrementCount_toInt {c : Word} (h : 0 ≤ c.toInt) : (decrementCount c).toInt = c.toInt - 1 := by
  have hlt : c.toInt < 2 ^ 15 := BitVec.toInt_lt
  have hone : (0xFFFF#16 : Word).toInt = -1 := by decide
  rw [decrementCount, BitVec.toInt_add, hone]
  exact Int.bmod_eq_of_le (by omega) (by omega)

theorem toInt_ofInt_countInit {c : Config} (h : c.wf = true) : (BitVec.ofInt 16 c.countInit).toInt = c.countInit := by
  obtain ⟨⟨hlo, hhi⟩, -, -⟩ := (Config.wf_iff c).1 h
  exact BitVec.toInt_ofInt_eq_self (by decide) (by omega) (by omega)

theorem step_succ_le_two : ∀ k : BitVec 3, k ≠ 2#3 → k.toNat ≤ 2 → (k + 1#3).toNat ≤ 2 := by decide

theorem step_succ_le_four : ∀ k : BitVec 3, k ≠ 4#3 → k.toNat ≤ 4 → (k + 1#3).toNat ≤ 4 := by decide

/-- FORMAT gives digits (10_state.md R24). -/
theorem formatDigits_le {n : Int} {d : Digits} (h : formatDigits n = .ok d) :
    d.d0.toNat ≤ 9 ∧ d.d1.toNat ≤ 9 ∧ d.d2.toNat ≤ 9 ∧ d.d3.toNat ≤ 9 := by
  unfold formatDigits at h
  split at h <;> cases h
  simp only [BitVec.toNat_ofNat]
  omega

theorem cmdReady_iff (s : State) : s.cmdReady = true ↔ s.hostPend = .nothing ∧ s.job ≠ .halt := by
  simp [State.cmdReady]

theorem tickDue_iff (s : State) : s.tickDue = true ↔ s.loop = true ∧ s.tarm = true ∧ s.tmr = 0#7 := by
  simp [State.tickDue, and_assoc]

/-! ### The state after reset -/

theorem initial_inv {cfg : Config} {chip : Chip} (hc : cfg.wf = true) (hm : Memory.wf chip.ram = true)
    (moves : List Move) (draws : Nat) : (State.initial cfg chip moves draws).Inv where
  config := hc
  r45 := by
    obtain ⟨⟨hlo, -⟩, -, -⟩ := (Config.wf_iff cfg).1 hc
    simp [State.initial, State.R45, State.reset, toInt_ofInt_countInit hc, hlo]
  pending := by simp [State.initial, State.PendingInv, State.reset]
  loop := by simp [State.initial, State.LoopInv, State.reset]
  steps := by simp [State.initial, State.StepInv, State.reset]
  chip := hm

section
variable {s : State}

/-- A reset is a start with the parameters, the chip and the inputs of the run (70_reset_and_hazards.md R231). -/
theorem State.Inv.applyReset (h : s.Inv) : s.applyReset.Inv :=
  have hinit := initial_inv h.config h.chip s.moves s.draws
  ⟨hinit.config, hinit.r45, hinit.pending, hinit.loop, hinit.steps, hinit.chip⟩

/-! ### What the invariant says while a job runs -/

theorem State.Inv.of_opening (h : s.Inv) (hj : s.job = .opening) :
    s.hostPend = .opening ∧ s.dstate = .uninit ∧ s.dead = false := by
  obtain ⟨hopen, -, -, hjob, -, -⟩ := h.pending
  exact ⟨hjob hj, hopen (hjob hj)⟩

theorem State.Inv.of_cfg (h : s.Inv) (hj : s.job = .cfg) :
    s.hostPend = .starting ∧ s.dstate = .ready ∧ s.fatal = false := by
  obtain ⟨-, hstart, -, -, hjob, -⟩ := h.pending
  exact ⟨hjob hj, hstart (hjob hj)⟩

theorem State.Inv.of_closing (h : s.Inv) (hj : s.job = .closing) :
    s.hostPend = .closing ∧ s.pwrdnPend = false ∧ (s.dstate = .ready ∨ s.dstate = .stopped) := by
  obtain ⟨-, -, hclose, -, -, hjob⟩ := h.pending
  exact ⟨(hjob hj).1, (hjob hj).2, hclose (hjob hj).1⟩

theorem State.Inv.of_tick (h : s.Inv) (hj : s.job = .tick) :
    s.loop = true ∧ (s.dstate = .running ∨ s.dstate = .stopped) := by
  obtain ⟨-, hloop, -, htick, -⟩ := h.r45
  exact ⟨htick hj, (hloop (htick hj)).imp_right And.left⟩

theorem State.Inv.of_pwrdn (h : s.Inv) (hj : s.job = .pwrdn) : s.dstate = .stopped ∧ s.pwrdnPend = false := by
  obtain ⟨-, -, hjob, -⟩ := h.loop
  exact hjob hj

/-! ### Moves, pulses, the timer's value and the history are no part of the invariant -/

theorem State.Inv.taken (h : s.Inv) : s.taken.Inv := by
  unfold State.taken
  split <;> exact ⟨h.config, h.r45, h.pending, h.loop, h.steps, h.chip⟩

theorem State.Inv.respond (h : s.Inv) (c : Code) : (s.respond c).Inv :=
  ⟨h.config, h.r45, h.pending, h.loop, h.steps, h.chip⟩

theorem State.Inv.setTmr (h : s.Inv) (n : BitVec 7) : State.Inv { s with tmr := n } :=
  ⟨h.config, h.r45, h.pending, h.loop, h.steps, h.chip⟩

/-- Neither are the two warnings. -/
theorem State.Inv.raiseWarning (h : s.Inv) {c : Code} (hc : c = .closeFailed ∨ c = .shutdownWriteFailed)
    (k : BitVec 3) : (s.raiseError c k).Inv := by
  rcases hc with rfl | rfl <;> exact ⟨h.config, h.r45, h.pending, h.loop, h.steps, h.chip⟩

/-! ### Host commands -/

/-- A command the dispatch table accepts in this state may become pending: with `cmd_ready` at 1 no command's job
runs. -/
theorem State.Inv.setHostPend (h : s.Inv) (hr : s.cmdReady = true) {p : HostPend}
    (hp : (p = .opening ∧ s.dstate = .uninit ∧ s.dead = false) ∨
      (p = .starting ∧ s.dstate = .ready ∧ s.fatal = false) ∨
      (p = .closing ∧ (s.dstate = .ready ∨ s.dstate = .stopped))) :
    State.Inv { s with hostPend := p } := by
  obtain ⟨hnone, -⟩ := (cmdReady_iff s).1 hr
  have hjob : s.job ≠ .opening ∧ s.job ≠ .cfg ∧ s.job ≠ .closing := by
    have := h.pending
    grind
  refine ⟨h.config, h.r45, ?_, h.loop, h.steps, h.chip⟩
  grind

/-- STOP in RUNNING: LOOP stays only for a tick in flight, and then the power-down is pending. -/
theorem State.Inv.acceptStop (h : s.Inv) (hr : s.cmdReady = true) (hs : s.dstate = .running) : s.acceptStop.Inv := by
  obtain ⟨hnone, -⟩ := (cmdReady_iff s).1 hr
  obtain ⟨config, r45, pending, loop, steps, chip⟩ := h
  refine ⟨config, ?_, ?_, ?_, steps, chip⟩ <;> grind [State.acceptStop, State.respond]

/-! ### SEQ's steps -/

/-- A tick is due only in RUNNING with CANCEL at 0 (R45, item 3). -/
theorem State.Inv.startTick (h : s.Inv) (hr : s.reqOut = none) (hp : s.hostPend = .nothing)
    (hd : s.tickDue = true) : s.startTick.Inv := by
  obtain ⟨hloop, htarm, -⟩ := (tickDue_iff s).1 hd
  obtain ⟨config, r45, pending, loop, steps, chip⟩ := h
  have hrun : s.dstate = .running ∧ s.cancel = false := by grind
  refine ⟨config, ?_, ?_, ?_, ?_, chip⟩ <;> grind [State.startTick]

/-- A tick that issues nothing ends the loop (43_tick_timer.md R175). -/
theorem State.Inv.endLoop (h : s.Inv) (hr : s.reqOut = none) (hj : s.job = .tick) :
    State.Inv { s with loop := false, job := .idle } := by
  obtain ⟨config, r45, pending, loop, steps, chip⟩ := h
  refine ⟨config, ?_, ?_, ?_, ?_, chip⟩ <;> grind

/-- The tick's check meets no defect: a count that is not negative is in FORMAT's range (R45, item 8). -/
theorem State.Inv.tickTop (h : s.Inv) (hr : s.reqOut = none) (hj : s.job = .tick) : s.tickTop.Inv := by
  unfold State.tickTop
  split
  · exact h.endLoop hr hj
  · split
    · exact h.endLoop hr hj
    · rename_i hneg
      have hlo : 0 ≤ s.count.toInt := by simpa [countNegative_iff] using hneg
      obtain ⟨config, r45, pending, loop, steps, chip⟩ := h
      have hhi : s.count.toInt ≤ 9999 := by
        obtain ⟨⟨-, hinit⟩, -, -⟩ := (Config.wf_iff _).1 config
        obtain ⟨-, -, -, -, -, -, -, ⟨-, hcount⟩, -⟩ := r45
        omega
      split
      · rename_i d hd
        refine ⟨config, r45, pending, loop, ?_, chip⟩
        have hdig := formatDigits_le hd
        grind
      · rename_i c hc
        simp [formatDigits_count _ hlo hhi] at hc

/-- The job of the pending command starts (42_driver_ops.md R150). -/
theorem State.Inv.enterJob (h : s.Inv) (hi : s.job = .idle) (hp : s.pwrdnPend = false) {j : Job}
    (hj : (j = .opening ∧ s.hostPend = .opening) ∨ (j = .cfg ∧ s.hostPend = .starting) ∨
      (j = .closing ∧ s.hostPend = .closing)) : (s.enterJob j).Inv := by
  obtain ⟨config, r45, pending, loop, steps, chip⟩ := h
  refine ⟨config, ?_, ?_, ?_, ?_, chip⟩ <;> grind [State.enterJob]

/-- The power-down starts in STOPPED, where its request was pending (R45, item 5). -/
theorem State.Inv.startPwrdn (h : s.Inv) (hi : s.job = .idle) (hp : s.pwrdnPend = true) :
    (State.enterJob { s with pwrdnPend := false } .pwrdn).Inv := by
  obtain ⟨config, r45, pending, loop, steps, chip⟩ := h
  have hstop : s.dstate = .stopped := by grind
  refine ⟨config, ?_, ?_, ?_, ?_, chip⟩ <;> grind [State.enterJob]

theorem job_ne_idle_of_namedRequest {r : Request} (hn : s.namedRequest = some r) : s.job ≠ .idle :=
  fun hj => by simp [namedRequest_of_idle s hj] at hn

/-- A request on the port is the one the job names, so a job runs. -/
theorem State.Inv.present (h : s.Inv) {r : Request} (hn : s.namedRequest = some r) : (s.present r).Inv := by
  have hidle : s.job ≠ .idle := job_ne_idle_of_namedRequest hn
  have hname : (s.present r).namedRequest = some r := hn
  obtain ⟨config, r45, pending, loop, steps, chip⟩ := h
  refine ⟨config, ?_, pending, loop, ?_, chip⟩ <;> grind [State.present]

/-! ### Answers -/

theorem State.Inv.release (h : s.Inv) (r : Request) (ok : Bool) : (s.release r ok).Inv := by
  obtain ⟨config, r45, pending, loop, steps, chip⟩ := h
  refine ⟨config, ?_, pending, loop, ?_, Chip.take_wf _ _ chip⟩ <;> grind [State.release]

/-- OPEN ends in READY with CONN, or in UNINIT with DEAD. -/
theorem State.Inv.openAnswered (h : s.Inv) (hr : s.reqOut = none) (hj : s.job = .opening) (ok : Bool) :
    (s.openAnswered ok).Inv := by
  obtain ⟨-, huninit, hdead⟩ := h.of_opening hj
  obtain ⟨config, r45, pending, loop, steps, chip⟩ := h
  unfold State.openAnswered
  split <;> refine ⟨config, ?_, ?_, ?_, ?_, chip⟩ <;> grind [State.respondJob, State.respond, State.raiseError]

/-- CFG goes on within its three bytes, ends in RUNNING with the first tick scheduled, or fails in READY. -/
theorem State.Inv.cfgAnswered (h : s.Inv) (hr : s.reqOut = none) (hj : s.job = .cfg) (ok : Bool) :
    (s.cfgAnswered ok).Inv := by
  obtain ⟨-, hready, hfatal⟩ := h.of_cfg hj
  obtain ⟨config, r45, pending, loop, steps, chip⟩ := h
  unfold State.cfgAnswered
  split
  · split
    · refine ⟨config, ?_, ?_, ?_, ?_, chip⟩ <;> grind [State.respondJob, State.respond]
    · refine ⟨config, r45, pending, loop, ?_, chip⟩
      grind [step_succ_le_two]
  · refine ⟨config, ?_, ?_, ?_, ?_, chip⟩ <;> grind [State.respondJob, State.respond, State.raiseError]

/-- A tick past its check displayed a count that is not negative, so its decrement is at least -1. -/
theorem State.Inv.endTick (h : s.Inv) (hr : s.reqOut = none) (hj : s.job = .tick) (hk : s.step ≠ 0#3) :
    s.endTick.Inv := by
  obtain ⟨config, r45, pending, loop, steps, chip⟩ := h
  have hcount : (decrementCount s.count).toInt = s.count.toInt - 1 := decrementCount_toInt (by grind)
  unfold State.endTick
  split <;> refine ⟨config, ?_, ?_, ?_, ?_, chip⟩ <;> grind

/-- TICK goes on within its four writes, ends, or fails and ends the loop. -/
theorem State.Inv.tickAnswered (h : s.Inv) (hr : s.reqOut = none) (hj : s.job = .tick) (hk : s.step ≠ 0#3)
    (ok : Bool) : (s.tickAnswered ok).Inv := by
  unfold State.tickAnswered
  split
  · split
    · exact h.endTick hr hj hk
    · obtain ⟨config, r45, pending, loop, steps, chip⟩ := h
      refine ⟨config, r45, pending, loop, ?_, chip⟩
      grind [step_succ_le_four]
  · obtain ⟨-, hstate⟩ := h.of_tick hj
    obtain ⟨config, r45, pending, loop, steps, chip⟩ := h
    refine ⟨config, ?_, ?_, ?_, ?_, chip⟩ <;> grind [State.emit, State.raiseError]

/-- PWRDN's second write, or its end. -/
theorem State.Inv.pwrdnContinues (h : s.Inv) (hr : s.reqOut = none) (hj : s.job = .pwrdn) :
    State.Inv (if s.step = 0#3 then { s with step := 1#3 } else { s with job := .idle }) := by
  obtain ⟨config, r45, pending, loop, steps, chip⟩ := h
  split
  · refine ⟨config, r45, pending, loop, ?_, chip⟩
    grind
  · refine ⟨config, ?_, ?_, ?_, ?_, chip⟩ <;> grind

theorem State.Inv.pwrdnAnswered (h : s.Inv) (hr : s.reqOut = none) (hj : s.job = .pwrdn) (ok : Bool) :
    (s.pwrdnAnswered ok).Inv := by
  cases ok with
  | true => exact h.pwrdnContinues hr hj
  | false => exact (h.raiseWarning (.inr rfl) s.step).pwrdnContinues hr hj

/-- CLOSE ends in CLOSED, with no refresh loop and no power-down left. -/
theorem State.Inv.closeEnds (h : s.Inv) (hr : s.reqOut = none) (hj : s.job = .closing) :
    (State.respondJob { s with conn := false, dstate := .closed } .ok).Inv := by
  obtain ⟨-, hpwrdn, hstate⟩ := h.of_closing hj
  obtain ⟨config, r45, pending, loop, steps, chip⟩ := h
  refine ⟨config, ?_, ?_, ?_, ?_, chip⟩ <;> grind [State.respondJob, State.respond]

theorem State.Inv.closeAnswered (h : s.Inv) (hr : s.reqOut = none) (hj : s.job = .closing) (ok : Bool) :
    (s.closeAnswered ok).Inv := by
  cases ok with
  | true => exact h.closeEnds hr hj
  | false => exact (h.raiseWarning (.inl rfl) s.step).closeEnds hr hj

theorem State.Inv.continueJob (h : s.Inv) (hr : s.reqOut = none) (hn : s.namedRequest.isSome = true) (ok : Bool) :
    (s.continueJob ok).Inv := by
  unfold State.continueJob
  cases hj : s.job with
  | opening => exact h.openAnswered hr hj ok
  | cfg => exact h.cfgAnswered hr hj ok
  | tick =>
    have hk : s.step ≠ 0#3 := fun hk => by simp [namedRequest_of_tickTop hj hk] at hn
    exact h.tickAnswered hr hj hk ok
  | pwrdn => exact h.pwrdnAnswered hr hj ok
  | closing => exact h.closeAnswered hr hj ok
  | idle | halt => exact h

/-! ### Every transition -/

theorem Trans.inv {m : Move} {t : State} (h : s.Inv) (ht : Trans s m t) : t.Inv := by
  cases ht with
  | stay => exact h
  | acceptOpen _ hr hd hs => exact h.setHostPend hr (.inl ⟨rfl, hs, hd⟩)
  | acceptStart _ hr _ hs hf => exact h.setHostPend hr (.inr (.inl ⟨rfl, hs, hf⟩))
  | acceptClose _ hr _ hs => exact h.setHostPend hr (.inr (.inr ⟨rfl, hs⟩))
  | acceptStop _ hr _ hs => exact h.acceptStop hr hs
  | respond _ c => exact h.respond c
  | strobe => exact h.setTmr _
  | startTick hr _ _ hp hd => exact h.startTick hr hp hd
  | tickTop hr hj => exact h.tickTop hr hj
  | muxDefect i c _ _ _ hc =>
    obtain ⟨w, hw⟩ := muxDigit_of_stepInv h.steps i
    simp [hw] at hc
  | issue r _ hn => exact h.present hn
  | startPwrdn _ hi hp => exact h.startPwrdn hi hp
  | startOpen _ hi hp hc => exact h.enterJob hi hp (.inl ⟨rfl, hc⟩)
  | startCfg _ hi hp hc => exact h.enterJob hi hp (.inr (.inl ⟨rfl, hc⟩))
  | startClose _ hi hp hc => exact h.enterJob hi hp (.inr (.inr ⟨rfl, hc⟩))
  | answer r ok _ hn => exact (h.release r ok).continueJob rfl hn ok
  | withdraw r ok => exact h.release r ok
  | reset => exact h.applyReset

theorem step_inv {t : State} (h : s.Inv) (hst : step s = .next t) : t.Inv := by
  obtain ⟨-, ht⟩ := step_trans hst
  exact ht.inv h.taken

end

theorem reachable_inv {s : State} (hs : Reachable s) : s.Inv := by
  induction hs with
  | start cfg chip moves draws hc hm => exact initial_inv hc hm moves draws
  | step s t _ hst ih => exact step_inv ih hst

/-- Settles O48: a step is one transition of the state without its next move, and every transition keeps the
invariant. -/
theorem everyStepKeepsTheInvariant : Obligations.EveryStepKeepsTheInvariant :=
  fun _ _ h hst => step_inv h hst

/-- Settles O49: R45 is part of the invariant, which holds after reset and is kept by every step of a run. -/
theorem reachableStatesSatisfyR45 : Obligations.ReachableStatesSatisfyR45 :=
  fun _ hs => (reachable_inv hs).r45

end Sys2Proof.Machine
end

/-! ## Under the invariant every step goes on (10_state.md R45, 60_exceptions.md R204) -/

section
namespace Sys2Proof.Machine

/-- The command on `cmd_op`, reserved ops among them (30_encoding.md R71, R72). -/
theorem exec_decodeCommand (s : State) (op : BitVec 3) : ∃ c, exec (decodeCommand op) s = .next (s.command c) := by
  unfold decodeCommand
  repeat' split
  all_goals exact ⟨_, rfl⟩

theorem exec_strobe_goesOn (s : State) : ∃ t, exec .strobe s = .next t := by
  simp only [exec, execStrobe]
  split <;> exact ⟨_, rfl⟩

/-- TICK faults only where it issues, and it issues only what its job names. -/
theorem exec_tick_goesOn {s : State} (hn : s.namedRequest = none) : ∃ t, exec .tick s = .next t := by
  have hissue (r : Request) : s.issue r = .next s := by simp [State.issue, State.issueEnabled, hn]
  simp only [exec, execTick, hissue]
  repeat' split
  all_goals exact ⟨_, rfl⟩

theorem connFault_eq_none_iff (r : Request) (conn : Bool) :
    r.connFault conn = none ↔ (conn = true ↔ r.kind ≠ 0#2) := by
  unfold Request.connFault
  split <;> cases conn <;> simp_all

section
variable {s : State}

/-- Only the OPEN job names OPEN_DEVICE. -/
theorem kind_of_namedRequest {r : Request} (hn : s.namedRequest = some r) : r.kind ≠ 0#2 ↔ s.job ≠ .opening := by
  unfold State.namedRequest at hn
  grind [openRequest, cmdRequest, regRequest, closeRequest, Option.map_eq_some_iff]

theorem State.Inv.job_ne_halt (h : s.Inv) : s.job ≠ .halt := by
  obtain ⟨-, -, -, -, -, hhalt⟩ := h.loop
  exact hhalt

/-- CONN is as the running job's requests require it (41_bus_ops.md R121 to R124). -/
theorem State.Inv.conn_iff (h : s.Inv) (hi : s.job ≠ .idle) : s.conn = true ↔ s.job ≠ .opening := by
  obtain ⟨hconn, -⟩ := h.r45
  rw [hconn]
  cases hj : s.job with
  | idle => exact absurd hj hi
  | halt => exact absurd hj h.job_ne_halt
  | opening => simp [State.Connected, h.of_opening hj]
  | cfg => simp [State.Connected, h.of_cfg hj]
  | pwrdn => simp [State.Connected, h.of_pwrdn hj]
  | tick =>
    obtain ⟨-, hs | hs⟩ := h.of_tick hj <;> simp [State.Connected, hs]
  | closing =>
    obtain ⟨-, -, hs | hs⟩ := h.of_closing hj <;> simp [State.Connected, hs]

theorem State.Inv.connFault_of_namedRequest (h : s.Inv) {r : Request} (hn : s.namedRequest = some r) :
    r.connFault s.conn = none := by
  rw [connFault_eq_none_iff, h.conn_iff (job_ne_idle_of_namedRequest hn), kind_of_namedRequest hn]

/-- What SEQ fetches: the request its job names, or TICK where it names none. -/
theorem fetch_seq_eq_some {w : PortWord} (hf : s.fetch .seq = some w) :
    s.reqOut = none ∧
      ((∃ r, s.namedRequest = some r ∧ w = r.word) ∨ (s.namedRequest = none ∧ w = .tickEvent)) := by
  simp only [State.fetch, State.seqFetch] at hf
  split at hf
  · rename_i hfree
    refine ⟨((seqFree_iff s).1 hfree).1, ?_⟩
    cases hn : s.namedRequest with
    | some r => exact .inl ⟨r, rfl, by simpa [hn, eq_comm] using hf⟩
    | none =>
      simp only [hn] at hf
      split at hf <;> cases hf
      exact .inr ⟨rfl, rfl⟩
  · cases hf

/-- SEQ's own step: the issue of the named request, which meets its CONN requirement, or TICK, or job selection. -/
theorem State.Inv.agentStep_seq_goesOn (h : s.Inv) : ∃ t, s.agentStep .seq = .next t := by
  cases hf : s.fetch .seq with
  | none => exact ⟨s.selectJob, by simp [State.agentStep, hf, State.otherMove]⟩
  | some w =>
    obtain ⟨hr, ⟨r, hn, rfl⟩ | ⟨hn, rfl⟩⟩ := fetch_seq_eq_some hf
    · obtain ⟨i, hd, he⟩ := exec_of_namedRequest s r h.config hn
      rw [agentStep_of_decode hf hd, he]
      exact ⟨_, issue_next s r hr (by simp [hn]) (h.connFault_of_namedRequest hn)⟩
    · rw [agentStep_of_decode hf (i := .tick) rfl]
      exact exec_tick_goesOn hn

theorem State.Inv.agentStep_goesOn (h : s.Inv) (m : Move) : ∃ t, s.agentStep m = .next t := by
  cases m with
  | host op =>
    obtain ⟨c, hc⟩ := exec_decodeCommand s op
    exact ⟨_, (agentStep_of_decode (fetch_host s op) rfl).trans hc⟩
  | strobe =>
    rw [agentStep_of_decode (fetch_strobe s) rfl]
    exact exec_strobe_goesOn s
  | seq => exact h.agentStep_seq_goesOn
  | answer ok => exact ⟨_, rfl⟩
  | rst => exact ⟨_, rfl⟩

end

/-- Settles O50: every agent's move goes on, and the next state meets the invariant, which excludes a defect and
HALT. -/
theorem noStepStopsUnderTheInvariant : Obligations.NoStepStopsUnderTheInvariant := by
  intro s h
  obtain ⟨t, ht⟩ := h.taken.agentStep_goesOn s.nextMove
  have hstep : step s = .next t := (step_of_wf h.config).trans ht
  have hinv : t.Inv := step_inv h hstep
  obtain ⟨-, -, -, -, -, -, -, -, -, hdefect⟩ := hinv.r45
  exact ⟨t, hstep, hdefect, hinv.job_ne_halt, by simp [State.faultCode, hdefect]⟩

end Sys2Proof.Machine
end

/-! ## Commands, outputs and the driver's states (10_state.md R20, R41, R43) -/

section
namespace Sys2Proof.Machine

/-! ### Commands wait for `cmd_ready` -/

theorem command_of_not_ready {s : State} (h : s.cmdReady = false) (c : Command) : s.command c = s := by
  simp [State.command, h]

theorem continueJob_hostPend (s : State) (ok : Bool) :
    (s.continueJob ok).hostPend = .nothing ∨ (s.continueJob ok).hostPend = s.hostPend := by
  unfold State.continueJob
  cases s.job with
  | opening => cases ok <;> exact .inl rfl
  | cfg =>
    simp only [State.cfgAnswered]
    split
    · split
      · exact .inl rfl
      · exact .inr rfl
    · exact .inl rfl
  | tick =>
    right
    simp only [State.tickAnswered, State.endTick]
    repeat' split
    all_goals rfl
  | pwrdn =>
    right
    simp only [State.pwrdnAnswered]
    split <;> split <;> rfl
  | closing => exact .inl rfl
  | idle | halt => exact .inr rfl

/-- Only a command on the port can become pending. -/
theorem Trans.hostPend {s t : State} {m : Move} (h : Trans s m t) (hm : ∀ op, m ≠ .host op) :
    t.hostPend = .nothing ∨ t.hostPend = s.hostPend := by
  cases h with
  | acceptOpen op | acceptStart op | acceptClose op | acceptStop op | respond op => exact absurd rfl (hm op)
  | tickTop =>
    obtain ⟨-, -, -, -, -, -, hpend, -⟩ := tickTop_frame s
    exact .inr hpend
  | muxDefect => exact .inr (State.raiseError_hostPend ..)
  | answer r ok => exact continueJob_hostPend _ ok
  | reset => exact .inl rfl
  | _ => exact .inr rfl

/-- Settles O16: a command is accepted by `State.command`, which tests `cmd_ready`, and by no other transition. -/
theorem commandsWaitForReady : Obligations.CommandsWaitForReady := by
  intro s
  refine ⟨cmdReady_iff s, fun hr op => ?_, fun t hst hm => ?_, by decide⟩
  · obtain ⟨c, hc⟩ := exec_decodeCommand s op
    rw [hc, command_of_not_ready hr]
  · obtain ⟨-, ht⟩ := step_trans hst
    simpa using ht.hostPend hm

/-! ### What reaches the parameters and the chip -/

theorem Trans.cfg {s t : State} {m : Move} (h : Trans s m t) : t.cfg = s.cfg := by
  cases h with
  | tickTop => exact (tickTop_frame s).1
  | muxDefect => exact State.raiseError_cfg ..
  | answer r ok => exact (continueJob_frame _ ok).1
  | _ => rfl

theorem Trans.chip {s t : State} {m : Move} (h : Trans s m t) (hm : ∀ ok, m ≠ .answer ok) : t.chip = s.chip := by
  cases h with
  | answer r ok | withdraw r ok => exact absurd rfl (hm ok)
  | tickTop =>
    obtain ⟨-, hchip, -⟩ := tickTop_frame s
    exact hchip
  | muxDefect => exact State.raiseError_chip ..
  | _ => rfl

/-- Settles O46, transition by transition. -/
theorem onlyAnswersReachTheChip : Obligations.OnlyAnswersReachTheChip := by
  intro s t hst
  obtain ⟨-, ht⟩ := step_trans hst
  exact ⟨by simpa using ht.cfg, fun hm => by simpa using ht.chip hm⟩

/-! ### The edges of DSTATE -/

/-- DSTATE stays, or goes along an edge of the state machine (10_state.md R20). -/
def DState.MayBecome (a b : DState) : Prop :=
  b = a ∨ (a = .uninit ∧ b = .ready) ∨ (a = .ready ∧ b = .running) ∨ (a = .ready ∧ b = .closed) ∨
    (a = .running ∧ b = .stopped) ∨ (a = .stopped ∧ b = .closed)

section
variable {s t : State} {m : Move}

/-- A command's job ends in the state its edge leads to; TICK and PWRDN leave DSTATE as it is. -/
theorem State.Inv.continueJob_dstate (h : s.Inv) (ok : Bool) : s.dstate.MayBecome (s.continueJob ok).dstate := by
  unfold State.continueJob
  cases hj : s.job with
  | opening =>
    obtain ⟨-, hs, -⟩ := h.of_opening hj
    cases ok <;> simp [State.openAnswered, DState.MayBecome, hs]
  | cfg =>
    obtain ⟨-, hs, -⟩ := h.of_cfg hj
    simp only [State.cfgAnswered]
    repeat' split
    all_goals simp [DState.MayBecome, hs]
  | tick =>
    simp only [State.tickAnswered, State.endTick]
    repeat' split
    all_goals simp [DState.MayBecome]
  | pwrdn =>
    simp only [State.pwrdnAnswered]
    repeat' split
    all_goals simp [DState.MayBecome]
  | closing =>
    obtain ⟨-, -, hs | hs⟩ := h.of_closing hj <;> simp [State.closeAnswered, DState.MayBecome, hs]
  | idle | halt => exact .inl rfl

theorem Trans.dstate (h : s.Inv) (ht : Trans s m t) (hm : m ≠ .rst) : s.dstate.MayBecome t.dstate := by
  cases ht with
  | acceptStop _ _ _ hs => simp [DState.MayBecome, hs]
  | tickTop =>
    obtain ⟨-, -, -, hs, -⟩ := tickTop_frame s
    exact .inl hs
  | muxDefect => exact .inl (State.raiseError_dstate ..)
  | answer r ok => exact (h.release r ok).continueJob_dstate ok
  | reset => exact absurd rfl hm
  | _ => exact .inl rfl

theorem State.Inv.reqOut_of_idle (h : s.Inv) (hi : s.job = .idle) : s.reqOut = none := by
  obtain ⟨-, -, -, -, -, -, -, -, hreq, -⟩ := h.r45
  simpa [hi] using hreq

theorem State.Inv.job_of_closed (h : s.Inv) (hs : s.dstate = .closed) : s.job = .idle := by
  cases hj : s.job with
  | idle => rfl
  | opening => simpa [hs] using h.of_opening hj
  | cfg => simpa [hs] using h.of_cfg hj
  | tick => simpa [hs] using h.of_tick hj
  | pwrdn => simpa [hs] using h.of_pwrdn hj
  | closing => simpa [hs] using h.of_closing hj
  | halt => exact absurd hj h.job_ne_halt

theorem State.Inv.hostPend_of_closed (h : s.Inv) (hs : s.dstate = .closed) : s.hostPend = .nothing := by
  obtain ⟨hopen, hstart, hclose, -⟩ := h.pending
  cases hp : s.hostPend with
  | nothing => rfl
  | opening => simpa [hs] using hopen hp
  | starting => simpa [hs] using hstart hp
  | closing => simpa [hs] using hclose hp

theorem State.Inv.loop_of_closed (h : s.Inv) (hs : s.dstate = .closed) :
    s.loop = false ∧ s.tarm = false ∧ s.pwrdnPend = false := by
  obtain ⟨-, hloop, htarm, -, hpwrdn, -⟩ := h.r45
  simp_all

/-- CLOSED is terminal: a command is answered, and nothing else happens (42_driver_ops.md R153). -/
theorem Trans.of_closed (h : s.Inv) (hs : s.dstate = .closed) (ht : Trans s m t) (hm : m ≠ .rst) :
    t = s ∨ ∃ c, t = s.respond c := by
  have hidle := h.job_of_closed hs
  have hr := h.reqOut_of_idle hidle
  have hpend := h.hostPend_of_closed hs
  obtain ⟨hloop, htarm, hpwrdn⟩ := h.loop_of_closed hs
  cases ht with
  | stay => exact .inl rfl
  | respond _ c => exact .inr ⟨c, rfl⟩
  | reset => exact absurd rfl hm
  | issue r _ hn => exact absurd hidle (job_ne_idle_of_namedRequest hn)
  -- The guard of every other transition fails: a job, a pending command, an armed timer or another DSTATE.
  | _ => simp_all [State.tickDue]

end

/-- Settles O56: the edges are those of the jobs' ends and of STOP, and in CLOSED a step is at most an answered
command. -/
theorem driverStateFollowsItsEdges : Obligations.DriverStateFollowsItsEdges := by
  intro s t h hst hm
  obtain ⟨-, ht⟩ := step_trans hst
  refine ⟨by simpa [DState.MayBecome] using ht.dstate h.taken hm, fun hs => ?_⟩
  have hs' : s.taken.dstate = .closed := by simpa using hs
  have hr : s.reqOut = none := h.reqOut_of_idle (h.job_of_closed hs)
  rcases ht.of_closed h.taken hs' hm with rfl | ⟨c, rfl⟩ <;>
    simp [hs, hr, State.requests, sinceReset, requestsOf]

/-! ### `status` -/

section
variable (s : State)

/-- `status` as its fields stand beside each other, most significant first (10_state.md R41). -/
theorem status_getLsbD (i : Nat) :
    s.status.getLsbD i =
      (BitVec.ofBool s.busy ++ BitVec.ofBool s.defect ++ BitVec.ofBool s.warnCl ++ BitVec.ofBool s.warnSd ++
        s.err.value ++ BitVec.ofBool s.dead ++ BitVec.ofBool s.conn ++ BitVec.ofBool s.fatal ++
        BitVec.ofBool s.cancel ++ BitVec.ofBool s.loop ++ s.dstate.code).getLsbD i := rfl

theorem status_flags :
    s.status.getLsbD 3 = s.loop ∧ s.status.getLsbD 4 = s.cancel ∧ s.status.getLsbD 5 = s.fatal ∧
    s.status.getLsbD 6 = s.conn ∧ s.status.getLsbD 7 = s.dead ∧ s.status.getLsbD 12 = s.warnSd ∧
    s.status.getLsbD 13 = s.warnCl ∧ s.status.getLsbD 14 = s.defect ∧ s.status.getLsbD 15 = s.busy := by
  simp only [status_getLsbD, BitVec.getLsbD_append]
  simp

theorem status_dstate : s.status.extractLsb' 0 3 = s.dstate.code := BitVec.extractLsb'_append_eq_right

theorem status_err : s.status.extractLsb' 8 4 = s.err.value := by
  ext i hi
  simp only [BitVec.getElem_extractLsb', status_getLsbD, BitVec.getLsbD_append]
  interval_cases i <;> simp

theorem busy_iff : s.busy = true ↔ s.job ≠ .idle ∨ s.pwrdnPend = true ∨ s.hostPend ≠ .nothing := by
  simp [State.busy, or_assoc]

end

/-- Settles O5, field by field. -/
theorem statusShowsItsFields : Obligations.StatusShowsItsFields := by
  refine ⟨fun s => ?_, by decide⟩
  obtain ⟨hloop, hcancel, hfatal, hconn, hdead, hwarnSd, hwarnCl, hdefect, hbusy⟩ := status_flags s
  exact ⟨status_dstate s, hloop, hcancel, hfatal, hconn, hdead, status_err s, hwarnSd, hwarnCl, hdefect,
    hbusy ▸ busy_iff s⟩

end Sys2Proof.Machine
end

/-! ## What a step adds to the history (20_memory.md R59, R63) -/

section
namespace Sys2Proof.Machine

/-! ### Responses and events are no transactions -/

/-- The later history adds responses and events only. -/
inductive PulsesOnly (h : List Obs) : List Obs → Prop where
  | refl : PulsesOnly h h
  | rsp (c : Code) {h' : List Obs} : PulsesOnly h h' → PulsesOnly h (.rsp c :: h')
  | evt (c : Code) {h' : List Obs} : PulsesOnly h h' → PulsesOnly h (.evt c :: h')

section
variable {h h' : List Obs}

theorem PulsesOnly.outstanding_eq (hp : PulsesOnly h h') : outstanding h' = outstanding h := by
  induction hp with
  | refl => rfl
  | rsp c _ ih | evt c _ ih => exact ih

theorem PulsesOnly.serial_iff (hp : PulsesOnly h h') : serial h' ↔ serial h := by
  induction hp with
  | refl => rfl
  | rsp c _ ih | evt c _ ih => exact ih

theorem PulsesOnly.requestsOf_sinceReset (hp : PulsesOnly h h') :
    requestsOf (sinceReset h') = requestsOf (sinceReset h) := by
  induction hp with
  | refl => rfl
  | rsp c _ ih | evt c _ ih => exact ih

end

section
variable {s t : State} {m : Move}

theorem raiseError_pulsesOnly (s : State) (c : Code) (k : BitVec 3) : PulsesOnly s.hist (s.raiseError c k).hist := by
  cases c with
  | ok | busUnavailable | configWriteFailed | illegalOperation => exact .refl
  | displayWriteFailed | invalidDigit | valueOutOfRange | closeFailed | shutdownWriteFailed => exact .evt _ .refl

theorem tickTop_pulsesOnly (s : State) : PulsesOnly s.hist s.tickTop.hist := by
  unfold State.tickTop
  split
  · exact .refl
  · split
    · exact .refl
    · split
      · exact .refl
      · exact raiseError_pulsesOnly ..

/-- A job's continuation issues nothing and answers nothing. -/
theorem continueJob_pulsesOnly (s : State) (ok : Bool) : PulsesOnly s.hist (s.continueJob ok).hist := by
  unfold State.continueJob
  cases s.job with
  | opening => cases ok <;> exact .rsp _ .refl
  | cfg =>
    simp only [State.cfgAnswered]
    split
    · split
      · exact .rsp _ .refl
      · exact .refl
    · exact .rsp _ .refl
  | tick =>
    simp only [State.tickAnswered, State.endTick]
    split
    · split
      · split <;> exact .refl
      · exact .refl
    · exact .evt _ .refl
  | pwrdn =>
    simp only [State.pwrdnAnswered]
    split <;> cases ok
    · exact .evt _ .refl
    · exact .refl
    · exact .evt _ .refl
    · exact .refl
  | closing =>
    cases ok
    · exact .rsp _ (.evt _ .refl)
    · exact .rsp _ .refl
  | idle | halt => exact .refl

/-! ### The traffic of one transition -/

/-- What a transition does on the request port, and what the history shows of it. -/
inductive Traffic (s t : State) : Prop where
  /-- Neither an issue nor an answer. -/
  | quiet : t.reqOut = s.reqOut → PulsesOnly s.hist t.hist → Traffic s t
  /-- The request the job names is issued, with none outstanding. -/
  | issue (r : Request) : s.reqOut = none → s.namedRequest = some r → t = s.present r → Traffic s t
  /-- The outstanding request is answered. -/
  | answer (r : Request) (ok : Bool) : s.reqOut = some r → t.reqOut = none →
      PulsesOnly (.answered ok :: s.hist) t.hist → Traffic s t
  /-- Reset withdraws what is outstanding. -/
  | reset : t = s.applyReset → Traffic s t

theorem Trans.traffic (ht : Trans s m t) : Traffic s t := by
  cases ht with
  | acceptStop => exact .quiet rfl (.rsp _ .refl)
  | respond _ c => exact .quiet rfl (.rsp c .refl)
  | tickTop =>
    obtain ⟨-, -, hreq, -⟩ := tickTop_frame s
    exact .quiet hreq (tickTop_pulsesOnly s)
  | muxDefect i c => exact .quiet (State.raiseError_reqOut ..) (raiseError_pulsesOnly ..)
  | issue r hr hn => exact .issue r hr hn rfl
  | answer r ok hr =>
    obtain ⟨-, -, hreq, -⟩ := continueJob_frame (s.release r ok) ok
    exact .answer r ok hr hreq (continueJob_pulsesOnly (s.release r ok) ok)
  | withdraw r ok hr => exact .answer r ok hr rfl .refl
  | reset => exact .reset rfl
  | _ => exact .quiet rfl .refl

/-- A reset apart, only an issue changes the requests since reset. -/
theorem Traffic.requests (ht : Traffic s t) :
    t.requests = s.requests ∨ (∃ r, s.reqOut = none ∧ s.namedRequest = some r ∧ t = s.present r) ∨
      t = s.applyReset := by
  cases ht with
  | quiet _ hp => exact .inl hp.requestsOf_sinceReset
  | issue r hr hn ht => exact .inr (.inl ⟨r, hr, hn, ht⟩)
  | answer _ ok _ _ hp => exact .inl hp.requestsOf_sinceReset
  | reset ht => exact .inr (.inr ht)

/-- What is newly on the port is what the job names. -/
theorem Traffic.namedRequest_of_issued (ht : Traffic s t) {r : Request} (htr : t.reqOut = some r)
    (hr : s.reqOut = none) : s.namedRequest = some r := by
  cases ht with
  | quiet hreq => simp [hreq, hr] at htr
  | issue q _ hn ht =>
    subst ht
    exact hn.trans htr
  | answer q ok hq => simp [hq] at hr
  | reset ht => simp [ht] at htr

/-- With the request on the port the one the history leaves outstanding, a transition keeps both. -/
theorem Traffic.serial (ht : Traffic s t) (hser : serial s.hist) (hout : outstanding s.hist = s.reqOut) :
    serial t.hist ∧ outstanding t.hist = t.reqOut := by
  cases ht with
  | quiet hreq hp => exact ⟨hp.serial_iff.2 hser, by rw [hp.outstanding_eq, hout, hreq]⟩
  | issue r hr _ ht =>
    subst ht
    exact ⟨⟨hout.trans hr, hser⟩, rfl⟩
  | answer r ok hr htr hp =>
    have hsome : outstanding s.hist ≠ none := by simp [hout, hr]
    exact ⟨hp.serial_iff.2 ⟨hsome, hser⟩, by rw [hp.outstanding_eq, htr]; rfl⟩
  | reset ht =>
    subst ht
    exact ⟨hser, rfl⟩

end

/-- Settles O54: a step issues only with no request outstanding and answers only an outstanding one; the rest of what it
adds to the history are responses, events and resets. -/
theorem transactionsAreSerial : Obligations.TransactionsAreSerial := by
  intro s t hser hout hst
  obtain ⟨-, ht⟩ := step_trans hst
  exact ht.traffic.serial (by simpa using hser) (by simpa using hout)

end Sys2Proof.Machine
end

/-! ## The issue order of the transactions (20_memory.md R64) -/

section
namespace Sys2Proof.Machine

/-! ### The requests the jobs name, and their ranks -/

section
variable {s : State}

/-- Every request a job names: its job and what it is (41_bus_ops.md R120). -/
theorem namedRequest_cases {r : Request} (hn : s.namedRequest = some r) :
    (s.job = .opening ∧ r = openRequest) ∨
    (s.job = .cfg ∧ ∃ b, cfgByte s.cfg s.step = some b ∧ r = cmdRequest b) ∨
    (s.job = .tick ∧ ∃ i w, encodeDigit s.cfg.segRom (s.dig.at i) = .ok w ∧ r = regRequest (regMap i) w) ∨
    (s.job = .pwrdn ∧ ∃ b, pwrdnByte s.step = some b ∧ r = cmdRequest b) ∨
    (s.job = .closing ∧ r = closeRequest) := by
  cases hj : s.job with
  | idle => simp [namedRequest_of_idle s hj] at hn
  | halt => simp [namedRequest_of_halt s hj] at hn
  | opening =>
    simp only [State.namedRequest, hj] at hn
    split at hn <;> cases hn
    exact .inl ⟨rfl, rfl⟩
  | cfg =>
    obtain ⟨b, hb, rfl⟩ := Option.map_eq_some_iff.1 ((namedRequest_of_cfg hj).symm.trans hn)
    exact .inr (.inl ⟨rfl, b, hb, rfl⟩)
  | tick =>
    simp only [State.namedRequest, hj] at hn
    split at hn
    · cases hn
    · split at hn <;> cases hn
      rename_i i _ _ rv hm
      obtain ⟨hoffset, hcode⟩ := muxDigit_ok hm
      exact .inr (.inr (.inl ⟨rfl, i, rv.2, hcode, by rw [hoffset]⟩))
  | pwrdn =>
    obtain ⟨b, hb, rfl⟩ := Option.map_eq_some_iff.1 ((namedRequest_of_pwrdn hj).symm.trans hn)
    exact .inr (.inr (.inr (.inl ⟨rfl, b, hb, rfl⟩)))
  | closing =>
    simp only [State.namedRequest, hj] at hn
    split at hn <;> cases hn
    exact .inr (.inr (.inr (.inr ⟨rfl, rfl⟩)))

end

/-- The bytes of the CFG job, by their step. -/
theorem cfgByte_cases {c : Config} {k : BitVec 3} {b : Byte} (hb : cfgByte c k = some b) :
    (k = 0#3 ∧ b = oscOnByte) ∨ (k = 1#3 ∧ b = dispOnByte c) ∨ (k = 2#3 ∧ b = dimByte c) := by
  unfold cfgByte at hb
  grind

/-- The bytes of the PWRDN job, by their step. -/
theorem pwrdnByte_cases {k : BitVec 3} {b : Byte} (hb : pwrdnByte k = some b) :
    (k = 0#3 ∧ b = oscOffByte) ∨ (k = 1#3 ∧ b = dispOffByte) := by
  unfold pwrdnByte at hb
  grind

@[simp] theorem rank_openRequest : openRequest.rank = 0 := rfl

@[simp] theorem rank_regRequest (reg : Byte) (v : Word) : (regRequest reg v).rank = 4 := rfl

@[simp] theorem rank_closeRequest : closeRequest.rank = 7 := rfl

/-- DISP_ON_BYTE keeps bit 0 at 1, so it is never taken for DISP_OFF_BYTE. -/
theorem rank_dispOnByte {c : Config} (h : c.blink ≤ 3) : (cmdRequest (dispOnByte c)).rank = 2 := by
  have rank : ∀ k ≤ 3, (cmdRequest (BitVec.ofNat 8 (0x81 + 2 * k))).rank = 2 := by decide
  rw [dispOnByte_eq h]
  exact rank _ h

theorem rank_dimByte {c : Config} (h : c.brightness ≤ 15) : (cmdRequest (dimByte c)).rank = 3 := by
  have rank : ∀ k ≤ 15, (cmdRequest (BitVec.ofNat 8 (0xE0 + k))).rank = 3 := by decide
  rw [dimByte_eq h]
  exact rank _ h

/-- The configuration bytes are ranked by their step. -/
theorem rank_of_cfgByte {c : Config} (hc : c.wf = true) {k : BitVec 3} {b : Byte} (hb : cfgByte c k = some b) :
    (cmdRequest b).rank = k.toNat + 1 := by
  obtain ⟨-, hbrightness, hblink⟩ := (Config.wf_iff c).1 hc
  rcases cfgByte_cases hb with ⟨rfl, rfl⟩ | ⟨rfl, rfl⟩ | ⟨rfl, rfl⟩
  · rfl
  · exact rank_dispOnByte hblink
  · exact rank_dimByte hbrightness

/-- The power-down bytes are ranked by their step. -/
theorem rank_of_pwrdnByte {k : BitVec 3} {b : Byte} (hb : pwrdnByte k = some b) :
    (cmdRequest b).rank = k.toNat + 5 := by
  rcases pwrdnByte_cases hb with ⟨rfl, rfl⟩ | ⟨rfl, rfl⟩ <;> rfl

/-! ### The bound on the ranks, job by job and, between jobs, state by state -/

section
variable {s t : State} {m : Move}

theorem rankBound_of_opening (hj : s.job = .opening) : s.rankBound = if s.reqOut.isSome then 1 else 0 := by
  simp [State.rankBound, hj]

theorem rankBound_of_cfg (hj : s.job = .cfg) :
    s.rankBound = s.step.toNat + 1 + (if s.reqOut.isSome then 1 else 0) := by simp [State.rankBound, hj]

theorem rankBound_of_tick (hj : s.job = .tick) : s.rankBound = 5 := by simp [State.rankBound, hj]

theorem rankBound_of_pwrdn (hj : s.job = .pwrdn) :
    s.rankBound = s.step.toNat + 5 + (if s.reqOut.isSome then 1 else 0) := by simp [State.rankBound, hj]

theorem rankBound_of_closing (hj : s.job = .closing) : s.rankBound = if s.reqOut.isSome then 8 else 7 := by
  simp [State.rankBound, hj]

theorem rankBound_of_uninit (hj : s.job = .idle) (hs : s.dstate = .uninit) :
    s.rankBound = if s.dead then 1 else 0 := by simp [State.rankBound, hj, hs]

theorem rankBound_of_ready (hj : s.job = .idle) (hs : s.dstate = .ready) :
    s.rankBound = if s.fatal then 4 else 1 := by simp [State.rankBound, hj, hs]

theorem rankBound_of_running (hj : s.job = .idle) (hs : s.dstate = .running) : s.rankBound = 5 := by
  simp [State.rankBound, hj, hs]

theorem rankBound_of_stopped (hj : s.job = .idle) (hs : s.dstate = .stopped) :
    s.rankBound = if s.pwrdnPend then 5 else 7 := by simp [State.rankBound, hj, hs]

theorem rankBound_of_closed (hj : s.job = .idle) (hs : s.dstate = .closed) : s.rankBound = 8 := by
  simp [State.rankBound, hj, hs]

@[simp] theorem State.taken_rankBound (s : State) : s.taken.rankBound = s.rankBound := by simp [State.rankBound]

/-! ### An issued request stands at the bound -/

/-- The named request stands at the bound, or is one more register write; issued, it stands below the new bound. -/
theorem State.Inv.rank_of_namedRequest (h : s.Inv) (hr : s.reqOut = none) {r : Request}
    (hn : s.namedRequest = some r) :
    (s.rankBound ≤ r.rank ∨ (s.rankBound = 5 ∧ r.rank = 4)) ∧ r.rank < (s.present r).rankBound := by
  rcases namedRequest_cases hn with ⟨hj, rfl⟩ | ⟨hj, b, hb, rfl⟩ | ⟨hj, i, w, -, rfl⟩ | ⟨hj, b, hb, rfl⟩ | ⟨hj, rfl⟩
  · simp [rankBound_of_opening, hj, hr]
  · simp [rankBound_of_cfg, hj, hr, rank_of_cfgByte h.config hb]
  · simp [rankBound_of_tick, hj]
  · simp [rankBound_of_pwrdn, hj, hr, rank_of_pwrdnByte hb]
  · simp [rankBound_of_closing, hj, hr]

theorem State.Inv.rankBound_le_present (h : s.Inv) (hr : s.reqOut = none) {r : Request}
    (hn : s.namedRequest = some r) : s.rankBound ≤ (s.present r).rankBound := by
  obtain ⟨hplace, hbelow⟩ := h.rank_of_namedRequest hr hn
  omega

/-! ### An answer does not lower the bound -/

/-- OPEN leaves READY, or UNINIT with DEAD, behind OPEN_DEVICE. -/
theorem State.Inv.rankBound_openAnswered (h : s.Inv) (hj : s.job = .opening) (ok : Bool) :
    (s.openAnswered ok).rankBound = 1 := by
  obtain ⟨-, hs, hdead⟩ := h.of_opening hj
  obtain ⟨-, -, -, hfatal, -⟩ := h.loop
  cases ok with
  | true => exact (rankBound_of_ready rfl rfl).trans (by simp [State.openAnswered, hfatal hs hdead])
  | false => exact rankBound_of_uninit rfl hs

theorem cfg_step_succ : ∀ k : BitVec 3, k.toNat ≤ 2 → (k + 1#3).toNat = k.toNat + 1 := by decide

/-- CFG goes on to its next byte, or ends in RUNNING or with FATAL, behind the configuration bytes. -/
theorem State.Inv.rankBound_cfgAnswered (h : s.Inv) (hr : s.reqOut = none) (hj : s.job = .cfg) (ok : Bool) :
    s.step.toNat + 2 ≤ (s.cfgAnswered ok).rankBound := by
  obtain ⟨-, hs, -⟩ := h.of_cfg hj
  obtain ⟨-, hstep, -⟩ := h.steps
  have hk : s.step.toNat ≤ 2 := hstep hj
  unfold State.cfgAnswered
  split
  · split
    · rw [rankBound_of_running rfl rfl]
      omega
    · rw [rankBound_of_cfg (s := { s with step := s.step + 1#3 }) hj]
      simp [hr, cfg_step_succ _ hk]
  · have hfail : ((s.raiseError .configWriteFailed s.step).respondJob .configWriteFailed).rankBound = 4 :=
      rankBound_of_ready rfl hs
    omega

/-- A tick goes on or ends: after STOP its power-down is still pending, so the bound stays behind the register writes. -/
theorem State.Inv.rankBound_after_tick (h : s.Inv) (hj : s.job = .tick) (htj : t.job = .tick ∨ t.job = .idle)
    (hs : t.dstate = s.dstate) (hp : t.pwrdnPend = s.pwrdnPend) : t.rankBound = 5 := by
  obtain ⟨-, hpend, -⟩ := h.loop
  rcases htj with htj | htj
  · exact rankBound_of_tick htj
  · obtain ⟨-, hrun | hstop⟩ := h.of_tick hj
    · exact rankBound_of_running htj (hs.trans hrun)
    · simp [rankBound_of_stopped htj (hs.trans hstop), hp, hpend hstop hj]

/-- Each write of a tick goes on to the next, or ends the tick. -/
theorem tickAnswered_frame (hj : s.job = .tick) (ok : Bool) :
    ((s.tickAnswered ok).job = .tick ∨ (s.tickAnswered ok).job = .idle) ∧
      (s.tickAnswered ok).dstate = s.dstate ∧ (s.tickAnswered ok).pwrdnPend = s.pwrdnPend := by
  unfold State.tickAnswered State.endTick
  split
  · split
    · split <;> exact ⟨.inr rfl, rfl, rfl⟩
    · exact ⟨.inl hj, rfl, rfl⟩
  · exact ⟨.inr rfl, rfl, rfl⟩

/-- PWRDN goes on to its second byte, or ends behind the power-down bytes. -/
theorem State.Inv.rankBound_pwrdnAnswered (h : s.Inv) (hj : s.job = .pwrdn) (ok : Bool) :
    s.step.toNat + 6 ≤ (s.pwrdnAnswered ok).rankBound := by
  obtain ⟨hs, hp⟩ := h.of_pwrdn hj
  obtain ⟨-, -, -, hstep, -⟩ := h.steps
  have hk : s.step.toNat ≤ 1 := hstep hj
  by_cases h0 : s.step = 0#3
  · cases ok <;> simp [State.pwrdnAnswered, rankBound_of_pwrdn, State.raiseError, h0, hj]
  · cases ok <;> simp [State.pwrdnAnswered, rankBound_of_stopped, State.raiseError, h0, hs, hp, hk]

theorem rankBound_closeAnswered (s : State) (ok : Bool) : (s.closeAnswered ok).rankBound = 8 :=
  rankBound_of_closed rfl rfl

/-- Whatever BUS answers, the bound still counts the answered request. -/
theorem State.Inv.rankBound_le_answered (h : s.Inv) {r : Request} (hr : s.reqOut = some r) (ok : Bool) :
    s.rankBound ≤ ((s.release r ok).continueJob ok).rankBound := by
  have hrel : (s.release r ok).Inv := h.release r ok
  unfold State.continueJob
  cases hj : s.job with
  | opening => simp [hj, hr, rankBound_of_opening hj, hrel.rankBound_openAnswered hj ok]
  | cfg =>
    have hbound : s.rankBound = s.step.toNat + 2 := by simp [rankBound_of_cfg hj, hr]
    simpa only [State.release_job, State.release_step, hj, hbound] using hrel.rankBound_cfgAnswered rfl hj ok
  | tick =>
    obtain ⟨htj, hs, hp⟩ := tickAnswered_frame (s := s.release r ok) hj ok
    simp [hj, rankBound_of_tick hj, hrel.rankBound_after_tick hj htj hs hp]
  | pwrdn =>
    have hbound : s.rankBound = s.step.toNat + 6 := by simp [rankBound_of_pwrdn hj, hr]
    simpa only [State.release_job, State.release_step, hj, hbound] using hrel.rankBound_pwrdnAnswered hj ok
  | closing => simp [hj, hr, rankBound_of_closing hj, rankBound_closeAnswered]
  | idle => simp [h.reqOut_of_idle hj] at hr
  | halt => exact absurd hj h.job_ne_halt

/-! ### No transition but a reset lowers the bound -/

/-- The check goes on, ends the tick, or halts at a defect. -/
theorem tickTop_job (hj : s.job = .tick) :
    s.tickTop.job = .tick ∨ s.tickTop.job = .idle ∨ s.tickTop.job = .halt := by
  unfold State.tickTop
  split
  · exact .inr (.inl rfl)
  · split
    · exact .inr (.inl rfl)
    · split
      · exact .inl hj
      · rename_i c hc
        unfold formatDigits at hc
        split at hc <;> cases hc
        exact .inr (.inr rfl)

theorem State.Inv.rankBound_tickTop (h : s.Inv) (hr : s.reqOut = none) (hj : s.job = .tick) :
    s.tickTop.rankBound = 5 := by
  obtain ⟨-, -, -, hs, -, -, -, hp, -⟩ := tickTop_frame s
  refine h.rankBound_after_tick hj ?_ hs hp
  rcases tickTop_job hj with htj | htj | htj
  · exact .inl htj
  · exact .inr htj
  · exact absurd htj (h.tickTop hr hj).job_ne_halt

/-- STOP is accepted with no job, or with the tick in flight, both in RUNNING. -/
theorem State.Inv.rankBound_le_acceptStop (h : s.Inv) (hready : s.cmdReady = true) (hs : s.dstate = .running) :
    s.rankBound ≤ s.acceptStop.rankBound := by
  obtain ⟨hnone, hhalt⟩ := (cmdReady_iff s).1 hready
  cases hj : s.job with
  | idle => simp [rankBound_of_running hj hs, rankBound_of_stopped (s := s.acceptStop) hj rfl]
  | tick => rw [rankBound_of_tick hj, rankBound_of_tick (s := s.acceptStop) hj]
  | opening => simpa [hnone] using h.of_opening hj
  | cfg => simpa [hnone] using h.of_cfg hj
  | closing => simpa [hnone] using h.of_closing hj
  | pwrdn => simpa [hs] using h.of_pwrdn hj
  | halt => exact absurd hj hhalt

/-- A job starts where the driver's state puts the bound, and an issue or an answer takes it on by the job's step. -/
theorem Trans.rankBound_le (h : s.Inv) (ht : Trans s m t) (hm : m ≠ .rst) : s.rankBound ≤ t.rankBound := by
  cases ht with
  | stay | acceptOpen | acceptStart | acceptClose | respond | strobe => exact le_refl s.rankBound
  | acceptStop _ hready _ hs => exact h.rankBound_le_acceptStop hready hs
  | startTick hr hi _ _ hdue =>
    obtain ⟨-, htarm, -⟩ := (tickDue_iff s).1 hdue
    obtain ⟨-, -, harmed, -⟩ := h.r45
    obtain ⟨-, hs, -⟩ := harmed htarm
    rw [rankBound_of_running hi hs, rankBound_of_tick s.startTick_job]
  | tickTop hr hj => rw [rankBound_of_tick hj, h.rankBound_tickTop hr hj]
  | muxDefect i c _ _ _ hc =>
    obtain ⟨w, hw⟩ := muxDigit_of_stepInv h.steps i
    simp [hw] at hc
  | issue r hr hn => exact h.rankBound_le_present hr hn
  | startPwrdn hr hi hp =>
    obtain ⟨-, -, -, -, hstop, -⟩ := h.r45
    simp [rankBound_of_stopped hi (hstop hp), rankBound_of_pwrdn (State.enterJob_job ..), hp]
  | startOpen hr hi _ hc =>
    obtain ⟨hopen, -⟩ := h.pending
    obtain ⟨hs, hdead⟩ := hopen hc
    simp [rankBound_of_uninit hi hs, hdead]
  | startCfg hr hi _ hc =>
    obtain ⟨-, hstart, -⟩ := h.pending
    obtain ⟨hs, hfatal⟩ := hstart hc
    simp [rankBound_of_ready hi hs, rankBound_of_cfg (s.enterJob_job _), hfatal]
  | startClose hr hi hp hc =>
    obtain ⟨-, -, hclose, -⟩ := h.pending
    rw [rankBound_of_closing (s.enterJob_job _)]
    obtain hs | hs := hclose hc
    · rw [rankBound_of_ready hi hs]
      split <;> split <;> omega
    · simp [rankBound_of_stopped hi hs, hr, hp]
  | answer r ok hr => exact h.rankBound_le_answered hr ok
  | withdraw r ok hr hn =>
    obtain ⟨-, -, -, -, -, hreq, -⟩ := h.steps
    simp [hr, hn] at hreq
  | reset => exact absurd rfl hm

/-! ### The invariant -/

/-- One more request at the bound, or one more register write behind register writes, keeps the order. -/
theorem inOrder_cons {l : List Request} {r : Request} {bound : Nat} (hl : inOrder l) (hbelow : ∀ q ∈ l, q.rank < bound)
    (hr : bound ≤ r.rank ∨ (bound = 5 ∧ r.rank = 4)) : inOrder (r :: l) := by
  refine List.pairwise_cons.2 ⟨fun q hq => ?_, hl⟩
  have := hbelow q hq
  omega

@[simp] theorem State.taken_requests (s : State) : s.taken.requests = s.requests := by simp [State.requests]

@[simp] theorem State.present_requests (s : State) (r : Request) : (s.present r).requests = r :: s.requests := rfl

@[simp] theorem State.applyReset_requests (s : State) : s.applyReset.requests = [] := rfl

theorem State.OrderInv.taken (h : s.OrderInv) : s.taken.OrderInv :=
  ⟨h.inv.taken, by simpa using h.ordered, by simpa using h.bounded⟩

theorem State.OrderInv.present (h : s.OrderInv) (hr : s.reqOut = none) {r : Request} (hn : s.namedRequest = some r) :
    (s.present r).OrderInv := by
  obtain ⟨hplace, hbelow⟩ := h.inv.rank_of_namedRequest hr hn
  have hle := h.inv.rankBound_le_present hr hn
  refine ⟨h.inv.present hn, inOrder_cons h.ordered h.bounded hplace, ?_⟩
  rw [State.present_requests, List.forall_mem_cons]
  exact ⟨hbelow, fun q hq => (h.bounded q hq).trans_le hle⟩

theorem State.OrderInv.applyReset (h : s.OrderInv) : s.applyReset.OrderInv :=
  ⟨h.inv.applyReset, by simp [inOrder], by simp⟩

theorem Trans.orderInv (h : s.OrderInv) (ht : Trans s m t) : t.OrderInv := by
  obtain rfl | hm := eq_or_ne m .rst
  · cases ht with
    | stay => exact h
    | reset => exact h.applyReset
  · have hle := ht.rankBound_le h.inv hm
    rcases ht.traffic.requests with hreq | ⟨r, hr, hn, rfl⟩ | rfl
    · exact ⟨ht.inv h.inv, hreq ▸ h.ordered, fun q hq => (h.bounded q (hreq ▸ hq)).trans_le hle⟩
    · exact h.present hr hn
    · exact h.applyReset

end

/-- Settles O51: the only request a step adds is the one its job names, which stands at the bound of the ranks issued so
far, and every other step leaves the requests and does not lower the bound. -/
theorem everyStepKeepsTheIssueOrder : Obligations.EveryStepKeepsTheIssueOrder := by
  intro s t h hst
  obtain ⟨-, ht⟩ := step_trans hst
  exact ht.orderInv h.taken

/-! ### Only known requests -/

/-- Settles O55: what is newly issued is the request the job names, and CONN is as the job requires it. -/
theorem onlyKnownRequestsAreIssued : Obligations.OnlyKnownRequestsAreIssued := by
  intro s t r h hst htr hr
  obtain ⟨-, ht⟩ := step_trans hst
  have hn : s.namedRequest = some r := by
    rw [← namedRequest_congr s.taken_job s.taken_step s.taken_cfg s.taken_dig]
    exact ht.traffic.namedRequest_of_issued htr (by simpa using hr)
  have hconn := h.conn_iff (job_ne_idle_of_namedRequest hn)
  rcases namedRequest_cases hn with ⟨hj, rfl⟩ | ⟨hj, b, hb, rfl⟩ | ⟨hj, i, w, hw, rfl⟩ | ⟨hj, b, hb, rfl⟩ | ⟨hj, rfl⟩
  · exact .inl ⟨rfl, by simpa [hj] using hconn⟩
  all_goals refine .inr ⟨?_, by simp [hconn, hj]⟩
  · rcases cfgByte_cases hb with ⟨-, rfl⟩ | ⟨-, rfl⟩ | ⟨-, rfl⟩
    · exact .inr (.inl rfl)
    · exact .inr (.inr (.inl rfl))
    · exact .inr (.inr (.inr (.inl rfl)))
  · exact .inr (.inr (.inr (.inr (.inr (.inr ⟨i, _, w, hw, rfl⟩)))))
  · rcases pwrdnByte_cases hb with ⟨-, rfl⟩ | ⟨-, rfl⟩
    · exact .inr (.inr (.inr (.inr (.inl rfl))))
    · exact .inr (.inr (.inr (.inr (.inr (.inl rfl)))))
  · exact .inl rfl

end Sys2Proof.Machine
end

/-! ## What an answered transaction does at the chip (20_memory.md R55, R56, R61) -/

section
namespace Sys2Proof.Machine

theorem payload_regRequest (reg : Byte) (v : Word) :
    (regRequest reg v).payload = [reg, v.extractLsb' 0 8, v.extractLsb' 8 8] := rfl

theorem payload_cmdRequest (b : Byte) : (cmdRequest b).payload = [b] := rfl

/-- Settles O24: a word of two given bytes is split into them again. -/
theorem payloadIsLittleEndian : Obligations.PayloadIsLittleEndian := by
  refine ⟨fun reg lo hi => ?_, payload_cmdRequest, rfl, rfl⟩
  obtain ⟨hlo, hhi⟩ := append_bytes hi lo
  rw [payload_regRequest, hlo, hhi]

/-- The chip takes what the answered request carried, or the free bytes of a failed one; no continuation touches it. -/
theorem agentStep_answer_chip {s : State} {r : Request} (hr : s.reqOut = some r) (ok : Bool) :
    ∃ t, s.agentStep (.answer ok) = .next t ∧
      t.chip = s.chip.take (if ok then r.payload else r.failedPayload s.draws) := by
  refine ⟨s.busAnswer ok, rfl, ?_⟩
  simp only [State.busAnswer, hr]
  split
  · obtain ⟨-, hchip, -⟩ := continueJob_frame (s.release r ok) ok
    exact hchip
  · rfl

theorem opcodeOf_append (opc par : Nibble) : opcodeOf (opc ++ par) = opc := by
  rw [← commandByte_eq_append, opcodeOf_commandByte]

theorem parameterOf_append (opc par : Nibble) : parameterOf (opc ++ par) = par := by
  rw [← commandByte_eq_append, parameterOf_commandByte]

theorem Chip.take_sysSetup (c : Chip) (par : Nibble) : c.take [0x2#4 ++ par] = { c with osc := par } := by
  simp [Chip.take, opcodeOf_append, parameterOf_append]

theorem Chip.take_displaySetup (c : Chip) (par : Nibble) : c.take [0x8#4 ++ par] = { c with disp := par } := by
  simp [Chip.take, opcodeOf_append, parameterOf_append]

theorem Chip.take_dimming (c : Chip) (par : Nibble) : c.take [0xE#4 ++ par] = { c with dim := par } := by
  simp [Chip.take, opcodeOf_append, parameterOf_append]

/-- The offsets of REG_MAP are data writes, and the pointer does not wrap within a word (20_memory.md R52, R56). -/
theorem regMap_pointer : ∀ i : BitVec 2,
    opcodeOf (regMap i) = 0x0#4 ∧ (parameterOf (regMap i)).toNat = 2 * i.toNat ∧
      (parameterOf (regMap i) + 1#4).toNat = 2 * i.toNat + 1 := by decide

/-- A register write puts its two bytes at its offset and one above. -/
theorem Chip.take_regWrite (c : Chip) (i : BitVec 2) (lo hi : Byte) :
    c.take [regMap i, lo, hi] =
      { c with ram := Memory.write (Memory.write c.ram (2 * i.toNat) lo) (2 * i.toNat + 1) hi } := by
  obtain ⟨hopcode, hoffset, hnext⟩ := regMap_pointer i
  simp [Chip.take, Memory.writeFrom, hopcode, hoffset, hnext]

/-- Settles O43: the payload's two data bytes, written one after the other, are read back where they were put. -/
theorem answeredWriteLandsInTheDisplayRam : Obligations.AnsweredWriteLandsInTheDisplayRam := by
  intro s i v hr
  obtain ⟨t, ht, hchip⟩ := agentStep_answer_chip hr true
  rw [if_pos rfl, payload_regRequest, Chip.take_regWrite] at hchip
  refine ⟨t, ht, ?low, ?high, fun a ha ha' => ?other, by simp [hchip], by simp [hchip], by simp [hchip]⟩
  case low => rw [hchip, Memory.read_write_other _ _ _ _ (by omega), Memory.read_write_same]
  case high => rw [hchip, Memory.read_write_same]
  case other => rw [hchip, Memory.read_write_other _ _ _ _ ha', Memory.read_write_other _ _ _ _ ha]

/-- Settles O45: the opcode of the command byte selects the setting, and its parameter is the value. -/
theorem answeredCommandSetsItsSetting : Obligations.AnsweredCommandSetsItsSetting := by
  intro s par
  have answered {b : Byte} (hr : s.reqOut = some (cmdRequest b)) :
      ∃ t, s.agentStep (.answer true) = .next t ∧ t.chip = s.chip.take [b] := agentStep_answer_chip hr true
  refine ⟨fun hr => ?_, fun hr => ?_, fun hr => ?_⟩
  · simpa only [Chip.take_sysSetup] using answered hr
  · simpa only [Chip.take_displaySetup] using answered hr
  · simpa only [Chip.take_dimming] using answered hr

end Sys2Proof.Machine
end

/-! ## Encoding (30_encoding.md R71 to R82) -/

section
namespace Sys2Proof.Machine

/-! ### The decoder, format by format -/

theorem inRegMap_iff (r : Byte) : inRegMap r = true ↔ r = 0x00#8 ∨ r = 0x02#8 ∨ r = 0x04#8 ∨ r = 0x06#8 := by
  simp [inRegMap, regMap, or_assoc]

theorem opcodeOf_append_parameterOf (b : Byte) : opcodeOf b ++ parameterOf b = b := by
  rw [← commandByte_eq_append, commandByte_split]

theorem requestKind_cases : ∀ kind : BitVec 2, kind = 0#2 ∨ kind = 1#2 ∨ kind = 2#2 ∨ kind = 3#2 := by decide

theorem decodeRequest_open (reg : Byte) (data : Word) :
    decodeRequest 0#2 reg data = if reg = 0x70#8 ∧ data = 0#16 then .ok .openDevice else .error .openFields := rfl

theorem decodeRequest_command (b : Byte) (data : Word) :
    decodeRequest 1#2 b data = if data = 0#16 then decodeCommandByte b else .error .commandData := rfl

theorem decodeRequest_register (reg : Byte) (v : Word) :
    decodeRequest 2#2 reg v = if inRegMap reg then .ok (.writeReg16 reg v) else .error .registerOffset := rfl

theorem decodeRequest_close (reg : Byte) (data : Word) :
    decodeRequest 3#2 reg data = if reg = 0#8 ∧ data = 0#16 then .ok .closeDevice else .error .closeFields := rfl

/-! ### Decode of encode -/

/-- Only WRITE_REG16 needs its well-formedness: the decoder tests the offset. -/
theorem decode_encode (i : Instr) (hwf : i.wf = true) : decode (encode i) = .ok i := by
  cases i with
  | writeCmdSysSetup par | writeCmdDisplaySetup par | writeCmdDimming par =>
    rw [encode, decode, decodeRequest_command]
    simp [decodeCommandByte, opcodeOf_append, parameterOf_append]
  | writeReg16 reg v => exact if_pos hwf
  | hostOpen | hostStart | hostStop | hostClose | reserved000 | reserved101 | reserved110 | reserved111 => rfl
  | openDevice | closeDevice | tick | strobe | format | encode d | mux p => rfl

/-- Settles O2: the decoder reads opcode and parameter back from a command byte, and the other fields as they stand. -/
theorem decodeAfterEncodeIsTheOperation : Obligations.DecodeAfterEncodeIsTheOperation := decode_encode

/-! ### Encode of decode -/

theorem encode_decodeCommand : ∀ op : BitVec 3,
    (decodeCommand op).wf = true ∧ encode (decodeCommand op) = .cmd op := by decide

theorem encode_of_decodeCommandByte {b : Byte} {i : Instr} (h : decodeCommandByte b = .ok i) :
    i.wf = true ∧ encode i = .request 1#2 b 0#16 := by
  have hb := opcodeOf_append_parameterOf b
  unfold decodeCommandByte at h
  split_ifs at h with hop hop hop <;> cases h
  all_goals exact ⟨rfl, by rw [encode, ← hop, hb]⟩

theorem encode_of_decodeRequest {kind : BitVec 2} {reg : Byte} {data : Word} {i : Instr}
    (h : decodeRequest kind reg data = .ok i) : i.wf = true ∧ encode i = .request kind reg data := by
  rcases requestKind_cases kind with rfl | rfl | rfl | rfl
  · rw [decodeRequest_open] at h
    split at h <;> cases h
    next hfields => obtain ⟨rfl, rfl⟩ := hfields; exact ⟨rfl, rfl⟩
  · rw [decodeRequest_command] at h
    split at h
    · next hdata => rw [hdata]; exact encode_of_decodeCommandByte h
    · cases h
  · rw [decodeRequest_register] at h
    split at h <;> cases h
    next hreg => exact ⟨hreg, rfl⟩
  · rw [decodeRequest_close] at h
    split at h <;> cases h
    next hfields => obtain ⟨rfl, rfl⟩ := hfields; exact ⟨rfl, rfl⟩

/-- Settles O3: each branch of the decoder that answers has tested every field that the encoder fixes. -/
theorem encodeAfterDecodeIsTheWord : Obligations.EncodeAfterDecodeIsTheWord := by
  intro w i h
  cases w with
  | cmd op => cases h; exact encode_decodeCommand op
  | request kind reg data => exact encode_of_decodeRequest h
  | strobePulse | tickEvent | formatCount | romIndex d | position p => cases h; exact ⟨rfl, rfl⟩

/-! ### Words the spec writes, and words it gives no meaning -/

theorem decodeTableWord_of_encode {nbits w : Nat} {i : Instr} (hw : tablePortWord nbits w = some (encode i))
    (hwf : i.wf = true) : decodeTableWord nbits w = some i := by
  simp [decodeTableWord, hw, decode_encode i hwf]

/-- Settles O1: each word is the encoding of its operation. -/
theorem wordsDecodeAsTheSpecWritesThem : Obligations.WordsDecodeAsTheSpecWritesThem :=
  ⟨decode_encode .hostOpen rfl, decode_encode .hostStop rfl, decode_encode .reserved101 rfl,
    decode_encode (.writeCmdSysSetup 0x1#4) rfl, decode_encode (.writeCmdDisplaySetup 0x1#4) rfl,
    decode_encode (.writeCmdDimming 0xF#4) rfl, decode_encode (.writeReg16 0x04#8 0x0066#16) rfl,
    decode_encode .openDevice rfl, decode_encode .closeDevice rfl, decode_encode (.encode 0x9#4) rfl,
    decodeTableWord_of_encode rfl rfl, decodeTableWord_of_encode rfl rfl⟩

/-- Settles O4: the decoder tests the opcode against the three of R73 and the offset against REG_MAP. -/
theorem otherOpcodesAndOffsetsAreRejected : Obligations.OtherOpcodesAndOffsetsAreRejected := by
  refine ⟨fun b hsys hdisp hdim => ?_, fun r v h0 h2 h4 h6 => ?_⟩
  · rw [decode, decodeRequest_command]
    simp [decodeCommandByte, hsys, hdisp, hdim]
  · rw [decode, decodeRequest_register]
    simp [inRegMap_iff, h0, h2, h4, h6]

/-! ### The reserved ops -/

/-- The dispatch table has no column for a reserved op: it is illegal in every row (30_encoding.md R72). -/
theorem action_reserved (s : State) : s.action .reserved = .illegal := by
  unfold State.action
  split
  · rfl
  · split
    · rfl
    · cases s.dstate <;> rfl

theorem command_reserved {s : State} (hr : s.cmdReady = true) :
    s.command .reserved = s.respond .illegalOperation := by
  simp [State.command, hr, action_reserved]

theorem exec_of_reserved (s : State) {i : Instr}
    (hi : i ∈ [Instr.reserved000, .reserved101, .reserved110, .reserved111]) :
    exec i s = .next (s.command .reserved) := by
  simp only [List.mem_cons, List.not_mem_nil, or_false] at hi
  rcases hi with rfl | rfl | rfl | rfl <;> rfl

/-- Settles O15: the four ops run one command, which is illegal in every state and only answers. -/
theorem reservedOpsAreAnsweredIllegal : Obligations.ReservedOpsAreAnsweredIllegal := by
  refine ⟨fun s hr i hi => ⟨s.respond .illegalOperation, ?_, rfl, rfl⟩, rfl, rfl, rfl, rfl⟩
  rw [exec_of_reserved s hi, command_reserved hr]

end Sys2Proof.Machine
end

/-! ## The datapath (40_datapath.md R100 to R106, 60_exceptions.md R204 to R206) -/

section
namespace Sys2Proof.Machine

/-! ### FORMAT -/

/-- The digits FORMAT gives, read in decimal, are its operand (40_datapath.md R101). -/
theorem formatDigits_value {n : Int} {d : Digits} (h : formatDigits n = .ok d) :
    (1000 * d.d0.toNat + 100 * d.d1.toNat + 10 * d.d2.toNat + d.d3.toNat : Int) = n := by
  unfold formatDigits at h
  split at h <;> cases h
  simp only [BitVec.toNat_ofNat]
  omega

theorem formatDigits_of_in_range {n : Int} (h : 0 ≤ n) (h' : n ≤ 9999) : ∃ d, formatDigits n = .ok d :=
  ⟨_, if_neg (by omega)⟩

theorem formatDigits_of_out_of_range {n : Int} (h : n < 0 ∨ 9999 < n) : formatDigits n = .error .valueOutOfRange :=
  if_pos h

/-- Settles O38: in range FORMAT gives four digits (`formatDigits_le`) that read as the operand; outside it gives the
error. -/
theorem formatGivesTheDecimalDigits : Obligations.FormatGivesTheDecimalDigits := by
  refine ⟨fun n h h' => ?_, fun _ => formatDigits_of_out_of_range⟩
  obtain ⟨d, hd⟩ := formatDigits_of_in_range h h'
  obtain ⟨h0, h1, h2, h3⟩ := formatDigits_le hd
  exact ⟨d, hd, h0, h1, h2, h3, formatDigits_value hd⟩

theorem exec_format (s : State) :
    exec .format s = s.returnValue ((formatDigits s.count.toInt).map .digits) := rfl

/-- Settles O39: what FORMAT gives for COUNT is what the operation returns, and its error is the defect of R204. -/
theorem formatWritesNoRegister : Obligations.FormatWritesNoRegister := by
  refine fun s hr hj => ⟨fun h h' => ?_, fun h => ?_⟩
  · rw [exec_format, formatDigits_count _ h h']
    exact returnValue_ok s _ hr hj
  · rw [exec_format, formatDigits_of_out_of_range h]
    exact returnValue_error s _ hr hj

/-! ### ENCODE -/

theorem encodeDigit_of_getElem? {rom : SegRom} {d : Nibble} {w : Word} (hw : (romList rom)[d.toNat]? = some w) :
    encodeDigit rom d = .ok w := by
  rw [encodeDigit_eq, hw]

/-- The ROM has ten words, so an index above 9 reads none (60_exceptions.md R205). -/
theorem encodeDigit_of_not_digit (rom : SegRom) {d : Nibble} (h : 9 < d.toNat) :
    encodeDigit rom d = .error .invalidDigit := by
  have none_above : (romList rom)[d.toNat]? = none := List.getElem?_eq_none h
  rw [encodeDigit_eq, none_above]

theorem exec_encode (s : State) (d : Nibble) :
    exec (.encode d) s = s.returnValue ((encodeDigit s.cfg.segRom d).map .word) := rfl

/-- Settles O40: the ROM word is what the operation returns, and a missing one is the defect of R204. -/
theorem encodeReadsTheRom : Obligations.EncodeReadsTheRom := by
  refine fun s d hr hj => ⟨fun w hw => ?_, fun h => ?_⟩
  · rw [exec_encode, encodeDigit_of_getElem? hw]
    exact returnValue_ok s _ hr hj
  · rw [exec_encode, encodeDigit_of_not_digit _ h]
    exact returnValue_error s _ hr hj

/-! ### MUX -/

/-- MUX of a latch that holds no digit has ENCODE's error. -/
theorem muxDigit_of_not_digit (rom : SegRom) {dig : Digits} {i : BitVec 2} {d : Nibble}
    (hd : [dig.d0, dig.d1, dig.d2, dig.d3][i.toNat]? = some d) (h : 9 < d.toNat) :
    muxDigit rom dig i = .error .invalidDigit := by
  have hat : dig.at i = d := Option.some.inj ((digits_at_eq dig i).symm.trans hd)
  simp [muxDigit, hat, encodeDigit_of_not_digit rom h]

theorem exec_mux (s : State) (i : BitVec 2) :
    exec (.mux i) s = s.returnValue ((muxDigit s.cfg.segRom s.dig i).map fun rv => .regWord rv.1 rv.2) := rfl

/-- Settles O41: the offset is the register map's, `2 * i`; the code, or the defect, is ENCODE's of the latch. -/
theorem muxPairsOffsetAndCode : Obligations.MuxPairsOffsetAndCode := by
  refine fun s i d hr hj hd => ⟨fun w hw => ?_, fun h => ?_⟩
  · rw [exec_mux, muxDigit_of_getElem? hd hw, regMap_eq i]
    exact returnValue_ok s _ hr hj
  · rw [exec_mux, muxDigit_of_not_digit _ hd h]
    exact returnValue_error s _ hr hj

end Sys2Proof.Machine
end

/-! ## The bus operations (41_bus_ops.md R120 to R127) -/

section
namespace Sys2Proof.Machine

/-! ### Each operation is the issue of its request -/

section
variable (s : State)

theorem exec_writeCmdSysSetup (par : Nibble) :
    exec (.writeCmdSysSetup par) s = s.issue (cmdRequest (0x2#4 ++ par)) := by
  rw [← commandByte_eq_append]
  rfl

theorem exec_writeCmdDisplaySetup (par : Nibble) :
    exec (.writeCmdDisplaySetup par) s = s.issue (cmdRequest (0x8#4 ++ par)) := by
  rw [← commandByte_eq_append]
  rfl

theorem exec_writeCmdDimming (par : Nibble) :
    exec (.writeCmdDimming par) s = s.issue (cmdRequest (0xE#4 ++ par)) := by
  rw [← commandByte_eq_append]
  rfl

theorem exec_writeReg16_of_inRegMap {reg : Byte} (h : inRegMap reg = true) (v : Word) :
    exec (.writeReg16 reg v) s = s.issue (regRequest reg v) := if_pos h

theorem exec_writeReg16_of_not_inRegMap {reg : Byte} (h : ¬ inRegMap reg = true) (v : Word) :
    exec (.writeReg16 reg v) s = .refused (.registerOffsetOutsideMap reg) := if_neg h

theorem exec_openDevice : exec .openDevice s = s.issue openRequest := rfl

theorem exec_closeDevice : exec .closeDevice s = s.issue closeRequest := rfl

end

/-! ### An issue by its CONN requirement -/

section
variable {s : State} (hr : s.reqOut = none) (hn : s.namedRequest.isSome = true)
include hr hn

theorem issue_of_conn (hc : s.conn = true) {r : Request} (hk : r.kind ≠ 0#2) : s.issue r = .next (s.present r) :=
  issue_next s r hr hn ((connFault_eq_none_iff r _).2 (by simp [hc, hk]))

theorem issue_of_not_conn (hc : s.conn = false) {r : Request} (hk : r.kind ≠ 0#2) :
    s.issue r = .fault .connectionMissing :=
  issue_fault s r _ hr hn (by simp [Request.connFault, hc, hk])

theorem issue_openRequest_of_not_conn (hc : s.conn = false) : s.issue openRequest = .next (s.present openRequest) :=
  issue_next s _ hr hn ((connFault_eq_none_iff _ _).2 (by simp [hc, openRequest]))

theorem issue_openRequest_of_conn (hc : s.conn = true) : s.issue openRequest = .fault .connectionHeld :=
  issue_fault s _ _ hr hn (by simp [Request.connFault, hc, openRequest])

end

theorem kind_cmdRequest_ne (b : Byte) : (cmdRequest b).kind ≠ 0#2 := by simp [cmdRequest]

theorem kind_regRequest_ne (reg : Byte) (v : Word) : (regRequest reg v).kind ≠ 0#2 := by simp [regRequest]

theorem kind_closeRequest_ne : closeRequest.kind ≠ 0#2 := by simp [closeRequest]

/-- Settles O17: the operation issues its command byte, and an enabled issue with CONN = 1 presents it. -/
theorem writeCmdPresentsItsByte : Obligations.WriteCmdPresentsItsByte := by
  intro s par hr hn hc
  have presented (b : Byte) : s.issue (cmdRequest b) = .next (s.present (cmdRequest b)) :=
    issue_of_conn hr hn hc (kind_cmdRequest_ne b)
  rw [exec_writeCmdSysSetup, exec_writeCmdDisplaySetup, exec_writeCmdDimming]
  exact ⟨presented _, presented _, presented _⟩

/-- Settles O18: the operation tests its offset against REG_MAP, and issues the write or is refused. -/
theorem writeReg16PresentsItsWord : Obligations.WriteReg16PresentsItsWord := by
  refine ⟨fun s reg v hreg hr hn hc => ?_, fun s reg v h0 h2 h4 h6 => ?_⟩
  · rw [exec_writeReg16_of_inRegMap s ((inRegMap_iff reg).2 hreg)]
    exact issue_of_conn hr hn hc (kind_regRequest_ne reg v)
  · refine exec_writeReg16_of_not_inRegMap s (fun h => ?_) v
    simpa [h0, h2, h4, h6] using (inRegMap_iff reg).1 h

/-- Settles O19: each request is presented under the CONN it requires. -/
theorem connectionRequestsArePresented : Obligations.ConnectionRequestsArePresented := by
  intro s hr hn
  rw [exec_openDevice, exec_closeDevice]
  exact ⟨issue_openRequest_of_not_conn hr hn, fun hc => issue_of_conn hr hn hc kind_closeRequest_ne⟩

/-- Settles O20: OPEN_DEVICE with CONN = 1, and every other request with CONN = 0, is a fault of the issue. -/
theorem brokenConnectionRequirementStops : Obligations.BrokenConnectionRequirementStops := by
  intro s hr hn
  rw [exec_openDevice, exec_closeDevice]
  refine ⟨issue_openRequest_of_conn hr hn, fun hc => ?_⟩
  have missing {r : Request} (hk : r.kind ≠ 0#2) : s.issue r = .fault .connectionMissing :=
    issue_of_not_conn hr hn hc hk
  refine ⟨missing kind_closeRequest_ne, fun par => ?_, fun reg v hreg => ?_⟩
  · rw [exec_writeCmdSysSetup, exec_writeCmdDisplaySetup, exec_writeCmdDimming]
    exact ⟨missing (kind_cmdRequest_ne _), missing (kind_cmdRequest_ne _), missing (kind_cmdRequest_ne _)⟩
  · rw [exec_writeReg16_of_inRegMap s ((inRegMap_iff reg).2 hreg)]
    exact missing (kind_regRequest_ne reg v)

/-! ### While a request is outstanding -/

section
variable {s : State} (h : s.reqOut.isSome = true)
include h

theorem seqFree_of_outstanding : s.seqFree = false := by
  simp [State.seqFree, ← Option.not_isSome, h]

theorem returnValue_of_outstanding (r : Except Code DataOut) : s.returnValue r = .next s := by
  simp [State.returnValue, seqFree_of_outstanding h]

theorem exec_tick_of_outstanding : exec .tick s = .next s := by
  simp [exec, execTick, seqFree_of_outstanding h]

theorem selectJob_of_outstanding : s.selectJob = s := by
  simp [State.selectJob, seqFree_of_outstanding h]

/-- SEQ fetches nothing, and selects no job. -/
theorem agentStep_seq_of_outstanding : s.agentStep .seq = .next s := by
  have hf : s.fetch .seq = none := by simp [State.fetch, State.seqFetch, seqFree_of_outstanding h]
  simp [State.agentStep, hf, State.otherMove, selectJob_of_outstanding h]

end

/-- Settles O21: the bus operations issue nothing, and the others take a step only where SEQ is free. -/
theorem noOperationOfSeqWhileOutstanding : Obligations.NoOperationOfSeqWhileOutstanding := by
  intro s h
  have unissued (r : Request) : s.issue r = .next s := issue_outstanding s r h
  have unreturned (v : Except Code DataOut) : s.returnValue v = .next s := returnValue_of_outstanding h v
  rw [exec_openDevice, exec_closeDevice, exec_format]
  refine ⟨unissued _, unissued _, exec_tick_of_outstanding h, unreturned _, fun par => ?_, fun i v => ?_,
    agentStep_seq_of_outstanding h⟩
  · rw [exec_writeCmdSysSetup, exec_writeCmdDisplaySetup, exec_writeCmdDimming, exec_encode]
    exact ⟨unissued _, unissued _, unissued _, unreturned _⟩
  · rw [exec_mux, exec_writeReg16_of_inRegMap s (inRegMap_regMap i)]
    exact ⟨unreturned _, unissued _⟩

/-- Every transition of SEQ needs REQ_OUT = 0, and those of HOST and TMR write none of these fields. -/
theorem Trans.frame_of_outstanding {s t : State} {m : Move} {r : Request} (hr : s.reqOut = some r) (ht : Trans s m t)
    (hanswer : ∀ ok, m ≠ .answer ok) (hrst : m ≠ .rst) :
    t.reqOut = some r ∧ t.job = s.job ∧ t.step = s.step ∧ t.dig = s.dig ∧ t.count = s.count ∧ t.conn = s.conn := by
  cases ht with
  | answer _ ok | withdraw _ ok => exact absurd rfl (hanswer ok)
  | reset => exact absurd rfl hrst
  | startTick h | tickTop h | muxDefect _ _ h | issue _ h | startPwrdn h | startOpen h | startCfg h | startClose h =>
    simp [hr] at h
  | stay | acceptOpen | acceptStart | acceptClose | acceptStop | respond | strobe =>
    exact ⟨hr, rfl, rfl, rfl, rfl, rfl⟩

/-- Settles O22: a step is one transition, and with a request outstanding only BUS's and `rst`'s write these
fields. -/
theorem requestIsStableUntilItsAnswer : Obligations.RequestIsStableUntilItsAnswer := by
  intro s t r hr hst hanswer hrst
  obtain ⟨-, ht⟩ := step_trans hst
  simpa using ht.frame_of_outstanding (by simpa using hr) hanswer hrst

/-! ### An answer with no request -/

theorem busAnswer_of_no_request {s : State} (hr : s.reqOut = none) (ok : Bool) : s.busAnswer ok = s := by
  simp [State.busAnswer, hr]

/-- Settles O23: an answer is no operation, and reaches the block only through an outstanding request. -/
theorem strayAnswerHasNoEffect : Obligations.StrayAnswerHasNoEffect := by
  intro s ok hr
  have hmove : s.otherMove (.answer ok) = s := busAnswer_of_no_request hr ok
  simp [State.agentStep, State.fetch, hmove]

/-! ### The bytes on the wire -/

theorem frame_cmdRequest (b : Byte) : (cmdRequest b).frame = 0xE0#8 :: (cmdRequest b).payload := rfl

theorem frame_regRequest (reg : Byte) (v : Word) : (regRequest reg v).frame = 0xE0#8 :: (regRequest reg v).payload := rfl

/-- Settles O25: a write's frame is the address byte and its payload (O24), and a connection request has none. -/
theorem frameStartsWithTheAddress : Obligations.FrameStartsWithTheAddress := by
  obtain ⟨hreg, hcmd, -, -⟩ := payloadIsLittleEndian
  refine ⟨fun b => ?_, fun reg lo hi => ?_, rfl, rfl⟩
  · rw [frame_cmdRequest, hcmd]
  · rw [frame_regRequest, hreg]

end Sys2Proof.Machine
end

/-! ## Job selection (42_driver_ops.md R150) -/

section
namespace Sys2Proof.Machine

section
variable {s : State} (hr : s.reqOut = none) (hj : s.job = .idle)
include hr hj

/-- With no job running SEQ's step is the start of a tick where one may start, else the selection of a job. -/
theorem agentStep_seq_of_idle :
    s.agentStep .seq = .next (if s.tickMayStart then s.startTick else s.selectJob) := by
  have hfree : s.seqFree = true := (seqFree_iff s).2 ⟨hr, by simp [hj]⟩
  by_cases hm : s.tickMayStart = true
  · have hf : s.fetch .seq = some .tickEvent := by
      simp [State.fetch, State.seqFetch, hfree, namedRequest_of_idle s hj, hm]
    rw [agentStep_of_decode hf (i := .tick) rfl]
    simp [exec, execTick, hfree, hj, hm]
  · have hf : s.fetch .seq = none := by
      simp [State.fetch, State.seqFetch, hfree, namedRequest_of_idle s hj, hj, hm]
    simp [State.agentStep, hf, State.otherMove, hm]

/-- The power-down comes before the pending command. -/
theorem selectJob_of_idle :
    s.selectJob =
      if s.pwrdnPend = true then State.enterJob { s with pwrdnPend := false } .pwrdn
      else if s.hostPend = .opening then s.enterJob .opening
      else if s.hostPend = .starting then s.enterJob .cfg
      else if s.hostPend = .closing then s.enterJob .closing
      else s := by
  have hfree : s.seqFree = true := (seqFree_iff s).2 ⟨hr, by simp [hj]⟩
  unfold State.selectJob
  cases s.hostPend <;> simp [hfree, hj]

end

/-- Settles O32: a tick may start only with no power-down and no command pending, so it stands last in R150's order. -/
theorem seqSelectsItsJob : Obligations.SeqSelectsItsJob := by
  intro s hr hj
  rw [agentStep_seq_of_idle hr hj]
  by_cases hm : s.tickMayStart = true
  · obtain ⟨-, hp, hc, hd⟩ := (tickMayStart_iff s).1 hm
    have due : s.loop = true ∧ s.tarm = true ∧ s.tmr = 0#7 := (tickDue_iff s).1 hd
    simp [hm, hp, hc, due, State.startTick]
  · rw [if_neg hm, selectJob_of_idle hr hj]
    have not_due (hp : ¬ s.pwrdnPend = true) (hc : s.hostPend = .nothing) :
        ¬ (s.loop = true ∧ s.tarm = true ∧ s.tmr = 0#7) := fun due =>
      hm ((tickMayStart_iff s).2 ⟨hj, by simpa using hp, hc, (tickDue_iff s).2 due⟩)
    split
    · rfl
    · cases hc : s.hostPend with
      | opening | starting | closing => simp [State.enterJob, hc]
      | nothing => simp [not_due ‹_› hc]

end Sys2Proof.Machine
end

/-! ## The dispatch table (42_driver_ops.md R140 to R148) -/

section
namespace Sys2Proof.Machine

section
variable (s : State)

/-! ### Its columns -/

theorem action_opening :
    s.action .opening = if s.dead = true ∨ s.dstate ≠ .uninit then .illegal else .accept .opening := by
  unfold State.action
  cases s.dead <;> cases s.dstate <;> simp

theorem action_starting :
    s.action .starting =
      if s.dead = true ∨ s.dstate ≠ .ready ∨ s.fatal = true then .illegal else .accept .starting := by
  unfold State.action
  cases s.dead <;> cases s.dstate <;> simp

theorem action_closing :
    s.action .closing =
      if s.dead = true ∨ (s.dstate ≠ .ready ∧ s.dstate ≠ .stopped) then .illegal else .accept .closing := by
  unfold State.action
  cases s.dead <;> cases s.dstate <;> simp

theorem action_stopping :
    s.action .stopping =
      if s.dstate = .closed then .illegal
      else if s.dead = true ∨ s.dstate ≠ .running then .noop
      else .stop := by
  unfold State.action
  cases s.dead <;> cases s.dstate <;> simp

end

/-! ### Its entries -/

section
variable {s : State} {c : Command} (hr : s.cmdReady = true)
include hr

theorem command_of_accept {p : HostPend} (ha : s.action c = .accept p) : s.command c = { s with hostPend := p } := by
  simp [State.command, hr, ha]

theorem command_of_noop (ha : s.action c = .noop) : s.command c = s.respond .ok := by
  simp [State.command, hr, ha]

theorem command_of_stop (ha : s.action c = .stop) : s.command c = s.acceptStop := by
  simp [State.command, hr, ha]

theorem command_of_illegal (ha : s.action c = .illegal) : s.command c = s.respond .illegalOperation := by
  simp [State.command, hr, ha]

end

theorem exec_hostOpen (s : State) : exec .hostOpen s = .next (s.command .opening) := rfl

theorem exec_hostStart (s : State) : exec .hostStart s = .next (s.command .starting) := rfl

theorem exec_hostStop (s : State) : exec .hostStop s = .next (s.command .stopping) := rfl

theorem exec_hostClose (s : State) : exec .hostClose s = .next (s.command .closing) := rfl

/-- Settles O9: OPEN's column accepts in UNINIT with DEAD = 0. -/
theorem openIsAcceptedInUninit : Obligations.OpenIsAcceptedInUninit := by
  intro s hr hs hd
  have ha : s.action .opening = .accept .opening := by simp [action_opening, hs, hd]
  rw [exec_hostOpen, command_of_accept hr ha]

/-- Settles O10: START's column accepts in READY with DEAD = 0 and FATAL = 0. -/
theorem startIsAcceptedInReady : Obligations.StartIsAcceptedInReady := by
  intro s hr hs hd hf
  have ha : s.action .starting = .accept .starting := by simp [action_starting, hs, hd, hf]
  rw [exec_hostStart, command_of_accept hr ha]

/-- Settles O11: CLOSE's column accepts in READY and in STOPPED with DEAD = 0, whatever FATAL. -/
theorem closeIsAcceptedInReadyAndStopped : Obligations.CloseIsAcceptedInReadyAndStopped := by
  intro s hr hs hd
  have ha : s.action .closing = .accept .closing := by
    rcases hs with hs | hs <;> simp [action_closing, hs, hd]
  rw [exec_hostClose, command_of_accept hr ha]

/-- Settles O12: STOP's column is rule R146 in RUNNING, and `acceptStop` is that rule. -/
theorem stopInRunning : Obligations.StopInRunning := by
  intro s hr hs hd
  have ha : s.action .stopping = .stop := by simp [action_stopping, hs, hd]
  rw [exec_hostStop, command_of_stop hr ha]
  rfl

/-- Settles O13: STOP's column is a no-op in every row but CLOSED and the live RUNNING. -/
theorem stopElsewhereIsHarmless : Obligations.StopElsewhereIsHarmless := by
  intro s hr hc hs
  have ha : s.action .stopping = .noop := by rw [action_stopping, if_neg hc, if_pos hs]
  rw [exec_hostStop, command_of_noop hr ha]
  rfl

/-- Settles O14: each clause is the guard of the illegal rows in its command's column. -/
theorem illegalCommandsChangeNothing : Obligations.IllegalCommandsChangeNothing := by
  intro s hr
  have answered {c : Command} (ha : s.action c = .illegal) :
      s.command c = { s with rsp := some .illegalOperation, hist := .rsp .illegalOperation :: s.hist } :=
    command_of_illegal hr ha
  rw [exec_hostOpen, exec_hostStart, exec_hostClose, exec_hostStop]
  refine ⟨fun hs => ?_, fun hs => ?_, fun hs => ?_, fun hs => ?_⟩
  · rw [answered ((action_opening s).trans (if_pos hs))]
  · rw [answered ((action_starting s).trans (if_pos hs))]
  · rw [answered ((action_closing s).trans (if_pos hs))]
  · rw [answered ((action_stopping s).trans (if_pos hs))]

end Sys2Proof.Machine
end

/-! ## The answers to the driver's jobs (42_driver_ops.md R143, R145, R147, R149) -/

section
namespace Sys2Proof.Machine

theorem cfgByte_isSome (c : Config) {k : BitVec 3} (hk : k.toNat ≤ 2) : (cfgByte c k).isSome = true := by
  have steps : ∀ k : BitVec 3, k.toNat ≤ 2 → k = 0#3 ∨ k = 1#3 ∨ k = 2#3 := by decide
  rcases steps k hk with rfl | rfl | rfl <;> rfl

theorem pwrdnByte_isSome : ∀ {k : BitVec 3}, k = 0#3 ∨ k = 1#3 → (pwrdnByte k).isSome = true := by decide

/-! ### An answer runs its job's continuation -/

section
variable {s : State} {r : Request} (hr : s.reqOut = some r) (ok : Bool)
include hr

theorem agentStep_answer_of_opening (hj : s.job = .opening) (hk : s.step = 0#3) :
    s.agentStep (.answer ok) = .next ((s.release r ok).openAnswered ok) := by
  rw [agentStep_answer s r ok hr (by simp [namedRequest_of_opening hj hk])]
  simp [State.continueJob, hj]

theorem agentStep_answer_of_cfg (hj : s.job = .cfg) (hk : s.step.toNat ≤ 2) :
    s.agentStep (.answer ok) = .next ((s.release r ok).cfgAnswered ok) := by
  rw [agentStep_answer s r ok hr (by simp [namedRequest_of_cfg hj, cfgByte_isSome s.cfg hk])]
  simp [State.continueJob, hj]

theorem agentStep_answer_of_pwrdn (hj : s.job = .pwrdn) (hk : s.step = 0#3 ∨ s.step = 1#3) :
    s.agentStep (.answer ok) = .next ((s.release r ok).pwrdnAnswered ok) := by
  rw [agentStep_answer s r ok hr (by simp [namedRequest_of_pwrdn hj, pwrdnByte_isSome hk])]
  simp [State.continueJob, hj]

theorem agentStep_answer_of_closing (hj : s.job = .closing) (hk : s.step = 0#3) :
    s.agentStep (.answer ok) = .next ((s.release r ok).closeAnswered ok) := by
  rw [agentStep_answer s r ok hr (by simp [namedRequest_of_closing hj hk])]
  simp [State.continueJob, hj]

end

/-! ### The continuations that depend on STEP -/

section
variable {s : State}

theorem cfgAnswered_next (hk : s.step ≠ 2#3) : s.cfgAnswered true = { s with step := s.step + 1#3 } := by
  simp [State.cfgAnswered, hk]

theorem cfgAnswered_last (hk : s.step = 2#3) :
    s.cfgAnswered true =
      State.respondJob
        { s with dstate := .running, loop := true, cancel := false, tarm := true, tmr := firstTickDelayMs } .ok := by
  simp [State.cfgAnswered, hk]

/-- A failed power-down write raises the warning, whichever of the two it is. -/
theorem pwrdnAnswered_first (hk : s.step = 0#3) (ok : Bool) :
    s.pwrdnAnswered ok = { (if ok then s else s.raiseError .shutdownWriteFailed s.step) with step := 1#3 } := by
  simp [State.pwrdnAnswered, hk]

theorem pwrdnAnswered_second (hk : s.step = 1#3) (ok : Bool) :
    s.pwrdnAnswered ok = { (if ok then s else s.raiseError .shutdownWriteFailed s.step) with job := .idle } := by
  simp [State.pwrdnAnswered, hk]

end

/-- Settles O27: R143's continuation, with BusUnavailable raised where the answer is a failure. -/
theorem openJobEnds : Obligations.OpenJobEnds := by
  intro s r hr hj hk
  have answered (ok : Bool) := agentStep_answer_of_opening hr ok hj hk
  exact ⟨answered true, answered false⟩

/-- Settles O28: after an answer ok STEP tells the next write from the end, and a failure ends START at any step. -/
theorem cfgJobContinues : Obligations.CfgJobContinues := by
  intro s r hr hj hk
  have answered (ok : Bool) := agentStep_answer_of_cfg hr ok hj hk
  refine ⟨fun hnext => ?_, fun hlast => ?_, answered false⟩
  · rw [answered, cfgAnswered_next (by simpa using hnext)]
    rfl
  · rw [answered, cfgAnswered_last (by simpa using hlast)]
    rfl

/-- Settles O29: the first answer takes STEP to the second write and the second ends the job; a failure adds its
warning. -/
theorem pwrdnJobContinues : Obligations.PwrdnJobContinues := by
  intro s r hr hj
  refine ⟨fun hk => ?_, fun hk => ?_⟩
  · have answered (ok : Bool) := agentStep_answer_of_pwrdn hr ok hj (.inl hk)
    rw [answered, answered, pwrdnAnswered_first (by simpa using hk), pwrdnAnswered_first (by simpa using hk)]
    exact ⟨rfl, rfl⟩
  · have answered (ok : Bool) := agentStep_answer_of_pwrdn hr ok hj (.inr hk)
    rw [answered, answered, pwrdnAnswered_second (by simpa using hk), pwrdnAnswered_second (by simpa using hk)]
    exact ⟨rfl, rfl⟩

/-- Settles O30: R149's continuation ends in CLOSED and answers OK, with the warning raised before where it is a
failure. -/
theorem closeJobEnds : Obligations.CloseJobEnds := by
  intro s r hr hj hk
  have answered (ok : Bool) := agentStep_answer_of_closing hr ok hj hk
  exact ⟨answered true, answered false⟩

end Sys2Proof.Machine
end

/-! ## After STOP (42_driver_ops.md R152) -/

section
namespace Sys2Proof.Machine

section
variable {s t : State} {m : Move}

/-- An answer goes on with its job or ends it: it starts none. -/
theorem continueJob_job (s : State) (ok : Bool) :
    (s.continueJob ok).job = .idle ∨ (s.continueJob ok).job = s.job := by
  unfold State.continueJob
  cases hj : s.job with
  | opening => cases ok <;> exact .inl rfl
  | cfg =>
    simp only [State.cfgAnswered]
    split
    · split
      · exact .inl rfl
      · exact .inr hj
    · exact .inl rfl
  | tick =>
    obtain ⟨htick | hidle, -, -⟩ := tickAnswered_frame hj ok
    · exact .inr htick
    · exact .inl hidle
  | pwrdn =>
    simp only [State.pwrdnAnswered]
    split
    · cases ok <;> exact .inr hj
    · exact .inl rfl
  | closing => exact .inl rfl
  | idle | halt => exact .inr hj

/-- A tick starts from an armed timer only. -/
theorem Trans.job_ne_tick (ht : Trans s m t) (hj : s.job ≠ .tick) (harm : s.tarm = false) : t.job ≠ .tick := by
  cases ht with
  | startTick _ _ _ _ hdue => simp [State.tickDue, harm] at hdue
  | tickTop _ htick | muxDefect _ _ _ htick => exact absurd htick hj
  | startPwrdn | startOpen | startCfg | startClose | reset => simp
  | answer r ok => rcases continueJob_job (s.release r ok) ok with hend | hend <;> simp [hend, hj]
  | _ => exact hj

/-- Only the TICK job names a register write. -/
theorem kind_of_namedRequest_of_not_tick {r : Request} (hn : s.namedRequest = some r) (hj : s.job ≠ .tick) :
    r.kind ≠ 2#2 := by
  obtain ⟨-, rfl⟩ | ⟨-, b, -, rfl⟩ | ⟨htick, -⟩ | ⟨-, b, -, rfl⟩ | ⟨-, rfl⟩ := namedRequest_cases hn
  · decide
  · simp [cmdRequest]
  · exact absurd htick hj
  · simp [cmdRequest]
  · decide

theorem registerWrites_cons {r : Request} (hk : r.kind ≠ 2#2) (l : List Request) :
    registerWrites (r :: l) = registerWrites l := by
  simp [registerWrites, hk]

/-- With no tick in flight no register write is issued. -/
theorem Trans.registerWrites_of_not_tick (ht : Trans s m t) (hj : s.job ≠ .tick) (hts : t.dstate ≠ .uninit) :
    registerWrites t.requests = registerWrites s.requests := by
  rcases ht.traffic.requests with hkept | ⟨r, -, hn, rfl⟩ | rfl
  · rw [hkept]
  · rw [State.present_requests, registerWrites_cons (kind_of_namedRequest_of_not_tick hn hj)]
  · exact absurd s.applyReset_dstate hts

/-- In STOPPED and CLOSED the timer is not armed, and LOOP is held by a tick in flight only (R45, items 2 and 3). -/
theorem State.Inv.loop_of_stopped (h : s.Inv) (hs : s.dstate = .stopped ∨ s.dstate = .closed) :
    s.tarm = false ∧ (s.job ≠ .tick → s.loop = false) := by
  obtain ⟨-, hloop, harm, -⟩ := h.r45
  have hrun : s.dstate ≠ .running := by rcases hs with hs | hs <;> simp [hs]
  refine ⟨Bool.eq_false_iff.2 fun hon => ?_, fun hj => Bool.eq_false_iff.2 fun hon => ?_⟩
  · obtain ⟨-, hr, -⟩ := harm hon
    exact hrun hr
  · rcases hloop hon with hr | ⟨-, htick⟩
    · exact hrun hr
    · exact hj htick

/-- STOPPED is left to CLOSED only, and CLOSED by reset only (10_state.md R20). -/
theorem Trans.dstate_of_stopped (h : s.Inv) (hs : s.dstate = .stopped ∨ s.dstate = .closed) (ht : Trans s m t)
    (hm : m ≠ .rst) : t.dstate = .stopped ∨ t.dstate = .closed := by
  have hedge := ht.dstate h hm
  rcases hs with hs | hs
  · simpa [DState.MayBecome, hs] using hedge
  · exact .inr (by simpa [DState.MayBecome, hs] using hedge)

end

/-- Settles O58: no tick starts from a timer that is not armed, no other job names a register write, and what the
invariant says of STOPPED and CLOSED holds of the next state too. -/
theorem noTickStartsAfterStop : Obligations.NoTickStartsAfterStop := by
  intro s t h hs hst hm
  obtain ⟨-, ht⟩ := step_trans hst
  have hts : t.dstate = .stopped ∨ t.dstate = .closed := ht.dstate_of_stopped h.taken (by simpa using hs) hm
  obtain ⟨harm, -⟩ := h.loop_of_stopped hs
  obtain ⟨htarm, htloop⟩ := (step_inv h hst).loop_of_stopped hts
  refine ⟨hts, fun hj => ⟨ht.job_ne_tick (by simpa using hj) (by simpa using harm), ?_⟩, htarm, fun _ => htloop⟩
  have hlive : t.dstate ≠ .uninit := by rcases hts with hts | hts <;> simp [hts]
  simpa using ht.registerWrites_of_not_tick (by simpa using hj) hlive

end Sys2Proof.Machine
end

/-! ## Responses and events (42_driver_ops.md R151, 60_exceptions.md R200, R221) -/

section
namespace Sys2Proof.Machine

/-! ### Responses -/

/-- What a transition does on the response port and with the pending command, when no response was on the port. -/
inductive Answering (s : State) (m : Move) (t : State) : Prop where
  /-- No response: HOST_PEND stays, or a command becomes pending. -/
  | quiet : t.rsp = none → t.hostPend = s.hostPend ∨ t.hostPend ≠ .nothing → Answering s m t
  /-- The command on the port is answered in the step that accepts it. -/
  | atOnce (op : BitVec 3) (c : Code) : m = .host op → s.cmdReady = true → c = .ok ∨ c = .illegalOperation →
      t.rsp = some c → t.hostPend = .nothing → Answering s m t
  /-- BUS's answer ends the pending command's job, which answers the command. -/
  | jobEnds (ok : Bool) (c : Code) : m = .answer ok → s.hostPend ≠ .nothing →
      c = .ok ∨ c = .busUnavailable ∨ c = .configWriteFailed →
      t.rsp = some c → t.hostPend = .nothing → Answering s m t
  /-- Reset drops the pending command. -/
  | reset : m = .rst → t.rsp = none → Answering s m t

section
variable {s t : State} {m : Move}

theorem State.Inv.hostPend_of_job (h : s.Inv) (hj : s.job = .opening ∨ s.job = .cfg ∨ s.job = .closing) :
    s.hostPend ≠ .nothing := by
  rcases hj with hj | hj | hj
  · simp [(h.of_opening hj).1]
  · simp [(h.of_cfg hj).1]
  · simp [(h.of_closing hj).1]

/-- The end of a command's job. -/
theorem Answering.of_jobEnd {u : State} (ok : Bool) {c : Code} (hp : s.hostPend ≠ .nothing)
    (hc : c = .ok ∨ c = .busUnavailable ∨ c = .configWriteFailed) :
    Answering s (.answer ok) (u.respondJob c) :=
  .jobEnds ok c rfl hp hc rfl rfl

/-- OPEN, CFG and CLOSE answer where they end; TICK and PWRDN answer nothing. -/
theorem State.Inv.answered_answering (h : s.Inv) (hrsp : s.rsp = none) (r : Request) (ok : Bool) :
    Answering s (.answer ok) ((s.release r ok).continueJob ok) := by
  simp only [State.continueJob, State.release_job]
  cases hj : s.job with
  | opening =>
    have hp := h.hostPend_of_job (.inl hj)
    cases ok
    · exact .of_jobEnd _ hp (.inr (.inl rfl))
    · exact .of_jobEnd _ hp (.inl rfl)
  | cfg =>
    have hp := h.hostPend_of_job (.inr (.inl hj))
    simp only [State.cfgAnswered]
    split
    · split
      · exact .of_jobEnd _ hp (.inl rfl)
      · exact .quiet hrsp (.inl rfl)
    · exact .of_jobEnd _ hp (.inr (.inr rfl))
  | tick =>
    simp only [State.tickAnswered, State.endTick]
    repeat' split
    all_goals exact .quiet hrsp (.inl rfl)
  | pwrdn =>
    simp only [State.pwrdnAnswered]
    split <;> cases ok <;> exact .quiet hrsp (.inl rfl)
  | closing => exact .of_jobEnd _ (h.hostPend_of_job (.inr (.inr hj))) (.inl rfl)
  | idle | halt => exact .quiet hrsp (.inl rfl)

theorem Trans.answering (h : s.Inv) (hrsp : s.rsp = none) (ht : Trans s m t) : Answering s m t := by
  cases ht with
  | acceptOpen | acceptStart | acceptClose => exact .quiet hrsp (.inr (by simp))
  | acceptStop op hr => exact .atOnce op .ok rfl hr (.inl rfl) rfl ((cmdReady_iff s).1 hr).1
  | respond op c hr hc => exact .atOnce op c rfl hr hc rfl ((cmdReady_iff s).1 hr).1
  | tickTop =>
    obtain ⟨-, -, -, -, -, -, hpend, -, htop, -⟩ := tickTop_frame s
    exact .quiet (htop.trans hrsp) (.inl hpend)
  | muxDefect => exact .quiet (by simpa using hrsp) (.inl (State.raiseError_hostPend ..))
  | answer r ok => exact h.answered_answering hrsp r ok
  | reset => exact .reset rfl rfl
  | _ => exact .quiet hrsp (.inl rfl)

end

/-! ### Events -/

section
variable {s t : State} {m : Move}

/-- The check at the top of a tick emits only at the defect. -/
theorem tickTop_evt (s : State) : s.tickTop.evt = s.evt ∨ s.tickTop.job = .halt := by
  unfold State.tickTop
  split
  · exact .inl rfl
  · split
    · exact .inl rfl
    · split
      · exact .inl rfl
      · rename_i c hc
        unfold formatDigits at hc
        split at hc <;> cases hc
        exact .inr rfl

/-- The events of a failed answer (60_exceptions.md R203, R207, R208). -/
theorem continueJob_evt (s : State) (ok : Bool) :
    (s.continueJob ok).evt = s.evt ∨
      ∃ c, (c = .displayWriteFailed ∨ c = .closeFailed ∨ c = .shutdownWriteFailed) ∧
        (s.continueJob ok).evt = some c := by
  unfold State.continueJob
  cases s.job with
  | opening => cases ok <;> exact .inl rfl
  | cfg =>
    simp only [State.cfgAnswered]
    repeat' split
    all_goals exact .inl rfl
  | tick =>
    simp only [State.tickAnswered, State.endTick]
    split
    · repeat' split
      all_goals exact .inl rfl
    · exact .inr ⟨.displayWriteFailed, .inl rfl, rfl⟩
  | pwrdn =>
    simp only [State.pwrdnAnswered]
    cases ok
    · exact .inr ⟨.shutdownWriteFailed, .inr (.inr rfl), by split <;> rfl⟩
    · exact .inl (by split <;> rfl)
  | closing =>
    cases ok
    · exact .inr ⟨.closeFailed, .inr (.inl rfl), rfl⟩
    · exact .inl rfl
  | idle | halt => exact .inl rfl

/-- Under the invariant no defect is raised, so only a failed answer emits. -/
theorem Trans.evt (h : s.Inv) (hevt : s.evt = none) (ht : Trans s m t) :
    t.evt = none ∨
      ∃ ok c, m = .answer ok ∧ (c = .displayWriteFailed ∨ c = .closeFailed ∨ c = .shutdownWriteFailed) ∧
        t.evt = some c := by
  cases ht with
  | tickTop hr hj =>
    rcases tickTop_evt s with hkept | hhalt
    · exact .inl (hkept.trans hevt)
    · exact absurd hhalt (h.tickTop hr hj).job_ne_halt
  | muxDefect i c _ _ _ hc =>
    obtain ⟨w, hw⟩ := muxDigit_of_stepInv h.steps i
    simp [hw] at hc
  | answer r ok =>
    rcases continueJob_evt (s.release r ok) ok with hkept | ⟨c, hc, hemit⟩
    · exact .inl (hkept.trans hevt)
    · exact .inr ⟨ok, c, rfl, hc, hemit⟩
  | reset => exact .inl rfl
  | _ => exact .inl hevt

end

/-- Settles O60: a step is one transition of a state with no pulse on its ports, so a response or an event is that
transition's own. -/
theorem responsesAnswerAcceptedCommands : Obligations.ResponsesAnswerAcceptedCommands := by
  intro s t h hst
  obtain ⟨-, ht⟩ := step_trans hst
  have hrsp : Answering s.taken s.nextMove t := ht.answering h.taken s.taken_rsp
  have hevt := ht.evt h.taken s.taken_evt
  refine ⟨fun c hc => ?_, fun hp hnone hm => ?_, fun c hc => ?_, fun hsome => ?_⟩
  · cases hrsp with
    | quiet hquiet | reset _ hquiet => simp [hquiet] at hc
    | atOnce op c' hm hr hcode hgiven hpend =>
      obtain rfl : c' = c := Option.some.inj (hgiven.symm.trans hc)
      exact ⟨by tauto, hpend, .inl ⟨op, hm, by simpa [State.cmdReady] using hr⟩⟩
    | jobEnds ok c' hm hp hcode hgiven hpend =>
      obtain rfl : c' = c := Option.some.inj (hgiven.symm.trans hc)
      exact ⟨by tauto, hpend, .inr ⟨⟨ok, hm⟩, by simpa using hp⟩⟩
  · cases hrsp with
    | quiet _ hpend =>
      rcases hpend with hkept | hnew
      · exact absurd (hkept.symm.trans hnone) (by simpa using hp)
      · exact absurd hnone hnew
    | atOnce _ _ _ _ _ hgiven | jobEnds _ _ _ _ _ hgiven => simp [hgiven]
    | reset hrst => exact absurd hrst hm
  · rcases hevt with hquiet | ⟨ok, c', -, hcode, hemit⟩
    · simp [hquiet] at hc
    · obtain rfl : c' = c := Option.some.inj (hemit.symm.trans hc)
      exact hcode
  · rcases hevt with hquiet | ⟨ok, -, hm, -⟩
    · simp [hquiet] at hsome
    · exact ⟨ok, hm⟩

end Sys2Proof.Machine
end

/-! ## The timer and the tick (43_tick_timer.md R171 to R180) -/

section
namespace Sys2Proof.Machine

/-! ### Arithmetic of COUNT and STEP -/

/-- A count that is not negative is its own bits' value. -/
theorem toNat_toInt_of_nonneg {c : Word} (h : 0 ≤ c.toInt) : c.toInt.toNat = c.toNat := by
  rw [BitVec.toInt_eq_toNat_of_msb (by rw [BitVec.msb_eq_toInt]; simpa using h), Int.toNat_natCast]

theorem decrementCount_eq_sub (c : Word) : decrementCount c = c - 1#16 := by
  unfold decrementCount
  bv_omega

theorem tick_step_succ : ∀ k : BitVec 3, k ≠ 4#3 → k.toNat ≤ 4 → (k + 1#3).toNat = k.toNat + 1 := by decide

/-! ### The check at the top of a tick -/

section
variable {s : State}

theorem tickTop_of_end (h : s.cancel = true ∨ s.count.toInt < 0) :
    s.tickTop = { s with loop := false, job := .idle } := by
  unfold State.tickTop
  rcases h with hcancel | hneg
  · rw [if_pos hcancel]
  · rw [if_pos ((countNegative_iff _).2 hneg), ite_self]

/-- With CANCEL at 0 and COUNT not negative, the check is what FORMAT answers. -/
theorem tickTop_of_goesOn (hc : s.cancel = false) (h : 0 ≤ s.count.toInt) :
    (∀ d, formatDigits s.count.toInt = .ok d → s.tickTop = { s with dig := d, step := 1#3 }) ∧
    (∀ c, formatDigits s.count.toInt = .error c → s.tickTop = s.raiseError c s.step) := by
  have hneg : ¬ countNegative s.count = true := fun hn => absurd ((countNegative_iff _).1 hn) (by omega)
  refine ⟨fun d hd => ?_, fun c hd => ?_⟩ <;> simp [State.tickTop, hc, hneg, hd]

/-- COUNT is at most COUNT_INIT (R45, item 8), so it is in FORMAT's range or negative. -/
theorem State.Inv.count_le (h : s.Inv) : s.count.toInt ≤ s.cfg.countInit ∧ s.cfg.countInit ≤ 9999 := by
  obtain ⟨⟨-, hinit⟩, -, -⟩ := (Config.wf_iff _).1 h.config
  obtain ⟨-, -, -, -, -, -, -, ⟨-, hcount⟩, -⟩ := h.r45
  exact ⟨hcount, hinit⟩

/-- Under the invariant the check ends the tick or latches the digits of COUNT: it meets no defect. -/
theorem State.Inv.tickTop_cases (h : s.Inv) :
    s.tickTop = { s with loop := false, job := .idle } ∨
      ∃ d, formatDigits s.count.toInt = .ok d ∧ s.tickTop = { s with dig := d, step := 1#3 } := by
  by_cases hend : s.cancel = true ∨ s.count.toInt < 0
  · exact .inl (tickTop_of_end hend)
  · push Not at hend
    obtain ⟨hcancel, hcount⟩ := hend
    obtain ⟨d, hd⟩ := formatDigits_of_in_range hcount (by have := h.count_le; omega)
    exact .inr ⟨d, hd, (tickTop_of_goesOn (by simpa using hcancel) hcount).1 d hd⟩

/-! ### The answers to a tick's writes -/

theorem tickAnswered_next (hk : s.step ≠ 4#3) : s.tickAnswered true = { s with step := s.step + 1#3 } := by
  simp [State.tickAnswered, hk]

theorem tickAnswered_last (hk : s.step = 4#3) : s.tickAnswered true = s.endTick := by
  simp [State.tickAnswered, hk]

/-- A failed write ends the tick and the loop (43_tick_timer.md R177). -/
theorem tickAnswered_failed :
    s.tickAnswered false = { s.raiseError .displayWriteFailed s.step with loop := false, job := .idle } := rfl

/-- Only the answer ok to one of the first three writes goes on with the tick. -/
theorem tickAnswered_of_goesOn {ok : Bool} (h : (s.tickAnswered ok).job = .tick) :
    s.tickAnswered ok = { s with step := s.step + 1#3 } := by
  cases ok with
  | false => exact nomatch h
  | true =>
    by_cases hk : s.step = 4#3
    · rw [tickAnswered_last hk, State.endTick] at h
      split at h <;> exact nomatch h
    · exact tickAnswered_next hk

/-- The end of a tick schedules the next one, unless CANCEL is set (43_tick_timer.md R178). -/
theorem endTick_of_not_cancel (hc : s.cancel = false) :
    s.endTick = { s with count := s.count - 1#16, tarm := true, tmr := 100#7, job := .idle } := by
  simp [State.endTick, hc, decrementCount_eq_sub, tickDelayMs]

theorem endTick_of_cancel (hc : s.cancel = true) :
    s.endTick = { s with count := s.count - 1#16, loop := false, job := .idle } := by
  simp [State.endTick, hc, decrementCount_eq_sub]

theorem agentStep_answer_of_tick {r : Request} (hr : s.reqOut = some r) (hj : s.job = .tick)
    (hn : s.namedRequest.isSome = true) (ok : Bool) :
    s.agentStep (.answer ok) = .next ((s.release r ok).tickAnswered ok) := by
  rw [agentStep_answer s r ok hr hn]
  simp [State.continueJob, hj]

/-! ### SEQ's steps of the TICK job -/

theorem exec_tick_of_idle (hr : s.reqOut = none) (hj : s.job = .idle) :
    exec .tick s = .next (if s.tickMayStart then s.startTick else s) := by
  have hfree : s.seqFree = true := (seqFree_iff s).2 ⟨hr, by simp [hj]⟩
  by_cases hstart : s.tickMayStart = true <;> simp [exec, execTick, hfree, hj, hstart]

section
variable (hr : s.reqOut = none) (hj : s.job = .tick)
include hr hj

theorem seqFree_of_tick : s.seqFree = true := (seqFree_iff s).2 ⟨hr, by simp [hj]⟩

theorem exec_tick_of_top (hk : s.step = 0#3) : exec .tick s = .next s.tickTop := by
  simp [exec, execTick, seqFree_of_tick hr hj, hj, hk]

/-- Past the check TICK is the issue of what MUX gives, or MUX's defect. -/
theorem exec_tick_of_position {i : BitVec 2} (hi : tickPosition s.step = some i) :
    (∀ reg w, muxDigit s.cfg.segRom s.dig i = .ok (reg, w) → exec .tick s = s.issue (regRequest reg w)) ∧
    (∀ c, muxDigit s.cfg.segRom s.dig i = .error c → exec .tick s = .next (s.raiseError c s.step)) := by
  have hk : s.step ≠ 0#3 := fun hk => by simp [hk, tickPosition] at hi
  refine ⟨fun reg w hm => ?_, fun c hm => ?_⟩ <;>
    simp [exec, execTick, seqFree_of_tick hr hj, hj, hk, hi, hm]

/-- Where the TICK job names no request SEQ's step is TICK. -/
theorem agentStep_seq_of_unnamed (hn : s.namedRequest = none) : s.agentStep .seq = exec .tick s := by
  have hf : s.fetch .seq = some .tickEvent := by
    simp [State.fetch, State.seqFetch, seqFree_of_tick hr hj, hn, hj]
  exact agentStep_of_decode hf rfl

end

/-- SEQ's step issues the request the job names. -/
theorem agentStep_seq_of_namedRequest (hc : s.cfg.wf = true) (hr : s.reqOut = none) {r : Request}
    (hn : s.namedRequest = some r) : s.agentStep .seq = s.issue r := by
  obtain ⟨i, hd, he⟩ := exec_of_namedRequest s r hc hn
  rw [agentStep_of_decode (fetch_seq_of_namedRequest hr hn) hd, he]

end

/-! ### The statements -/

/-- Settles O31: the release of the request, then R176's next step, R178's end or R177's failure. -/
theorem tickJobContinues : Obligations.TickJobContinues := by
  intro s r hr hj hn
  have answered (ok : Bool) := agentStep_answer_of_tick hr hj hn ok
  refine ⟨fun hk => ?_, fun hk hc => ?_, fun hk hc => ?_, ?_⟩
  · rw [answered, tickAnswered_next (by simpa using hk)]
    rfl
  · rw [answered, tickAnswered_last (by simpa using hk), endTick_of_not_cancel (by simpa using hc)]
    rfl
  · rw [answered, tickAnswered_last (by simpa using hk), endTick_of_cancel (by simpa using hc)]
    rfl
  · rw [answered, tickAnswered_failed]
    rfl

/-- Settles O33: the guard of STROBE is TARM = 1 and TMR not 0, and above 0 TMR - 1 does not wrap. -/
theorem strobeCountsDown : Obligations.StrobeCountsDown := by
  refine fun s => ⟨fun harm hpos => ?_, fun hoff => ?_⟩
  · have hne : s.tmr ≠ 0#7 := fun h0 => by simp [h0] at hpos
    have hsub : s.tmr - 1#7 = BitVec.ofNat 7 (s.tmr.toNat - 1) := by bv_omega
    simp [exec, execStrobe, harm, hne, hsub]
  · rcases hoff with harm | hzero
    · simp [exec, execStrobe, harm]
    · simp [exec, execStrobe, hzero]

/-- Settles O34: a tick that may start is what TICK and SEQ's own step do with no job running. -/
theorem tickStartsWhenDue : Obligations.TickStartsWhenDue := by
  intro s hr hj hp hh hloop harm htmr
  have hdue : s.tickDue = true := (tickDue_iff s).2 ⟨hloop, harm, htmr⟩
  have hstart : s.tickMayStart = true := (tickMayStart_iff s).2 ⟨hj, hp, hh, hdue⟩
  rw [exec_tick_of_idle hr hj, agentStep_seq_of_idle hr hj, if_pos hstart, if_pos hstart]
  exact ⟨rfl, rfl⟩

/-- Settles O35: TICK at step 0 is the check, and its three outcomes are those of CANCEL, the sign of COUNT and
FORMAT. -/
theorem tickTopChecksThenFormats : Obligations.TickTopChecksThenFormats := by
  intro s hr hj hk
  have hunnamed := agentStep_seq_of_unnamed hr hj (namedRequest_of_tickTop hj hk)
  refine ⟨fun hend => ?_, fun hc h h' => ?_, fun hc h => ?_, hunnamed⟩ <;> rw [exec_tick_of_top hr hj hk]
  · rw [tickTop_of_end hend]
  · rw [(tickTop_of_goesOn hc h).1 _ (formatDigits_count _ h h')]
  · rw [(tickTop_of_goesOn hc (by omega)).2 _ (formatDigits_of_out_of_range (.inr h))]
    rfl

/-- Settles O36: TICK, the fetched request and WRITE_REG16 are the same issue; where MUX has no code the job names no
request and TICK raises MUX's defect. -/
theorem tickWritesWhatMuxGives : Obligations.TickWritesWhatMuxGives := by
  refine ⟨fun s i w hcfg hr hconn hj hk hw => ?_, fun s i d hr hj hk hd h => ?_⟩
  · have hi : tickPosition s.step = some i := (tickPosition_eq_some _ _).2 hk
    have hm : muxDigit s.cfg.segRom s.dig i = .ok (regMap i, w) := by simp [muxDigit, hw]
    have hn := namedRequest_of_tick hj hi hm
    have hissue : s.issue (regRequest (regMap i) w) = .next (s.present (regRequest (regMap i) w)) :=
      issue_of_conn hr (by simp [hn]) hconn (kind_regRequest_ne _ _)
    rw [← regMap_eq, exec_writeReg16_of_inRegMap s (inRegMap_regMap i), (exec_tick_of_position hr hj hi).1 _ _ hm,
      agentStep_seq_of_namedRequest hcfg hr hn, hissue]
    exact ⟨rfl, rfl, rfl⟩
  · have hi : tickPosition s.step = some i := (tickPosition_eq_some _ _).2 hk
    have hm := muxDigit_of_not_digit s.cfg.segRom hd h
    have hn : s.namedRequest = none := by simp [State.namedRequest, hj, hi, hm]
    rw [agentStep_seq_of_unnamed hr hj hn, (exec_tick_of_position hr hj hi).2 _ hm]
    exact ⟨rfl, rfl⟩

/-- Settles O42: the sum is BitVec's, and a count that is not negative is decremented without a wrap. -/
theorem decrementIsTwosComplement : Obligations.DecrementIsTwosComplement :=
  ⟨fun c => BitVec.toNat_add c 0xFFFF#16, fun _ h _ => decrementCount_toInt h, by decide, by decide⟩

end Sys2Proof.Machine
end

/-! ## The countdown (43_tick_timer.md R181, R182) -/

section
namespace Sys2Proof.Machine

/-! ### The write a tick names is the countdown's -/

/-- The latches FORMAT fills hold the decimal digits. -/
theorem formatDigits_at {n : Int} {d : Digits} (h : formatDigits n = .ok d) (i : BitVec 2) :
    d.at i = BitVec.ofNat 4 (decimalDigit n.toNat i.toNat) := by
  unfold formatDigits at h
  split at h <;> cases h
  have positions : ∀ i : BitVec 2, i = 0#2 ∨ i = 1#2 ∨ i = 2#2 ∨ i = 3#2 := by decide
  rcases positions i with rfl | rfl | rfl | rfl <;> rfl

theorem formatDigits_at_le {n : Int} {d : Digits} (h : formatDigits n = .ok d) (i : BitVec 2) :
    (d.at i).toNat ≤ 9 := by
  obtain ⟨h0, h1, h2, h3⟩ := formatDigits_le h
  unfold Digits.at
  repeat' split
  all_goals assumption

/-- The write of the digit latched at a position is the one of the countdown's first tick. -/
theorem countdownWrite_of_latched {rom : SegRom} {n : Int} {d : Digits} (hd : formatDigits n = .ok d) {i : BitVec 2}
    {w : Word} (hw : encodeDigit rom (d.at i) = .ok w) :
    countdownWrite rom n.toNat i.toNat = regRequest (regMap i) w := by
  have hlt : i.toNat < 4 := i.isLt
  rw [formatDigits_at hd] at hw
  simp [countdownWrite, regRequest, regMap_eq, segEntry, Nat.mod_eq_of_lt hlt, Nat.div_eq_of_lt hlt, hw]

/-- The ticks of a countdown count down by one. -/
theorem countdownWrite_of_tick (rom : SegRom) (n ended : Nat) {i : Nat} (hi : i < 4) :
    countdownWrite rom n (4 * ended + i) = countdownWrite rom (n - ended) i := by
  have hmod : (4 * ended + i) % 4 = i % 4 := by omega
  have hdiv : (4 * ended + i) / 4 = ended := by omega
  have hfirst : i / 4 = 0 := by omega
  simp [countdownWrite, hmod, hdiv, hfirst]

section
variable {s t : State} {m : Move}

/-- What a tick names, by its step. -/
theorem namedRequest_of_tick_cases (hj : s.job = .tick) {r : Request} (hn : s.namedRequest = some r) :
    ∃ i w, s.step.toNat = i.toNat + 1 ∧ encodeDigit s.cfg.segRom (s.dig.at i) = .ok w ∧
      r = regRequest (regMap i) w := by
  simp only [State.namedRequest, hj] at hn
  split at hn
  · cases hn
  · rename_i i hi
    split at hn <;> cases hn
    rename_i rv hm
    obtain ⟨hoffset, hcode⟩ := muxDigit_ok hm
    exact ⟨i, rv.2, (tickPosition_eq_some _ _).1 hi, hcode, by rw [hoffset]⟩

/-- Under the invariant every latch holds a digit, so MUX has no defect. -/
theorem State.Inv.muxDigit_ne_error (h : s.Inv) (i : BitVec 2) (c : Code) :
    muxDigit s.cfg.segRom s.dig i ≠ .error c := by
  obtain ⟨w, hw⟩ := muxDigit_of_stepInv h.steps i
  simp [hw]

/-! ### How many writes have been issued -/

/-- A failed display write is fatal, so it is the record of no state with FATAL at 0. -/
theorem State.Inv.err_ne_of_not_fatal (h : s.Inv) (hf : s.fatal = false) : s.err ≠ .displayWriteFailed := by
  obtain ⟨-, -, -, -, -, -, herr, -⟩ := h.r45
  simp [herr hf]

theorem State.Inv.err_ne_of_tick (h : s.Inv) (hj : s.job = .tick) : s.err ≠ .displayWriteFailed := by
  obtain ⟨hloop, -⟩ := h.of_tick hj
  obtain ⟨-, -, -, -, hfatal, -⟩ := h.loop
  exact h.err_ne_of_not_fatal (Bool.eq_false_iff.2 fun hf => by simp [hfatal hf] at hloop)

theorem writesIssued_of_tick (he : s.err ≠ .displayWriteFailed) (hj : s.job = .tick) (hk : s.step ≠ 0#3) :
    s.writesIssued =
      4 * (s.cfg.countInit - s.count.toInt).toNat + (s.step.toNat - 1 + if s.reqOut.isSome then 1 else 0) := by
  simp [State.writesIssued, he, hj, hk]

theorem writesIssued_of_not_tick (he : s.err ≠ .displayWriteFailed) (hj : s.job = .tick → s.step = 0#3) :
    s.writesIssued = 4 * (s.cfg.countInit - s.count.toInt).toNat := by
  simp +contextual [State.writesIssued, he, hj]

theorem writesIssued_of_failed (he : s.err = .displayWriteFailed) :
    s.writesIssued = 4 * (s.cfg.countInit - s.count.toInt).toNat + s.errStep.toNat := by
  simp [State.writesIssued, he]

/-- Outside a tick's writes only COUNT and the record of a failed write count. -/
theorem writesIssued_congr (hs : s.job = .tick → s.step = 0#3) (ht : t.job = .tick → t.step = 0#3)
    (hcfg : t.cfg = s.cfg) (hcount : t.count = s.count)
    (herr : (t.err = s.err ∧ t.errStep = s.errStep) ∨
      (s.err ≠ .displayWriteFailed ∧ t.err ≠ .displayWriteFailed)) :
    t.writesIssued = s.writesIssued := by
  rcases herr with ⟨he, hk⟩ | ⟨hse, hte⟩
  · by_cases hse : s.err = .displayWriteFailed
    · rw [writesIssued_of_failed hse, writesIssued_of_failed (he.trans hse), hcfg, hcount, hk]
    · rw [writesIssued_of_not_tick hse hs, writesIssued_of_not_tick (he ▸ hse) ht, hcfg, hcount]
  · rw [writesIssued_of_not_tick hse hs, writesIssued_of_not_tick hte ht, hcfg, hcount]

/-! ### No transition but an issue or a reset changes the count of the writes -/

/-- An answer of another job leaves COUNT and the record of a failed display write. -/
theorem State.Inv.continueJob_record (h : s.Inv) (hj : s.job ≠ .tick) (ok : Bool) :
    (s.continueJob ok).count = s.count ∧
      (((s.continueJob ok).err = s.err ∧ (s.continueJob ok).errStep = s.errStep) ∨
        (s.err ≠ .displayWriteFailed ∧ (s.continueJob ok).err ≠ .displayWriteFailed)) := by
  unfold State.continueJob
  cases hjob : s.job with
  | opening =>
    obtain ⟨-, hs, hdead⟩ := h.of_opening hjob
    obtain ⟨-, -, -, hfatal, -⟩ := h.loop
    cases ok
    · have he := h.err_ne_of_not_fatal (hfatal hs hdead)
      exact ⟨rfl, .inr ⟨he, by simp [State.openAnswered, State.raiseError]⟩⟩
    · exact ⟨rfl, .inl ⟨rfl, rfl⟩⟩
  | cfg =>
    obtain ⟨-, -, hfatal⟩ := h.of_cfg hjob
    simp only [State.cfgAnswered]
    split
    · split <;> exact ⟨rfl, .inl ⟨rfl, rfl⟩⟩
    · exact ⟨rfl, .inr ⟨h.err_ne_of_not_fatal hfatal, by simp [State.raiseError]⟩⟩
  | tick => exact absurd hjob hj
  | pwrdn =>
    simp only [State.pwrdnAnswered]
    split <;> cases ok <;> exact ⟨rfl, .inl ⟨rfl, rfl⟩⟩
  | closing => cases ok <;> exact ⟨rfl, .inl ⟨rfl, rfl⟩⟩
  | idle | halt => exact ⟨rfl, .inl ⟨rfl, rfl⟩⟩

/-- The answered write counts in STEP, in the decremented COUNT, or in the record of the failure. -/
theorem State.Inv.writesIssued_tickAnswered (h : s.Inv) (hj : s.job = .tick) (hk : s.step ≠ 0#3) {r : Request}
    (hr : s.reqOut = some r) (ok : Bool) : ((s.release r ok).tickAnswered ok).writesIssued = s.writesIssued := by
  have he := h.err_ne_of_tick hj
  have hpos : 0 < s.step.toNat := by bv_omega
  obtain ⟨-, -, hstep, -, -, -, -, hnonneg⟩ := h.steps
  have hbefore : s.writesIssued = 4 * (s.cfg.countInit - s.count.toInt).toNat + s.step.toNat := by
    rw [writesIssued_of_tick he hj hk, hr, Option.isSome_some, if_pos rfl]
    omega
  rw [hbefore]
  cases ok with
  | true =>
    by_cases hlast : s.step = 4#3
    · -- The tick has ended well: its four writes are those of one more value shown.
      have hended : ((s.release r true).tickAnswered true).writesIssued =
          4 * (s.cfg.countInit - (decrementCount s.count).toInt).toNat := by
        rw [tickAnswered_last (s := s.release r true) hlast, State.endTick]
        split <;> exact writesIssued_of_not_tick he (fun hidle => nomatch hidle)
      have hdecrement := decrementCount_toInt (hnonneg hj hk)
      have hcount := h.count_le
      rw [hended, hdecrement, hlast, BitVec.toNat_ofNat]
      omega
    · have hsucc := tick_step_succ _ hlast (hstep hj)
      have hne : s.step + 1#3 ≠ 0#3 := fun h0 => by simp [h0] at hsucc
      rw [tickAnswered_next (s := s.release r true) hlast]
      simp [State.writesIssued, he, hj, hne, hsucc]
  | false => exact writesIssued_of_failed rfl

theorem State.Inv.writesIssued_answered (h : s.Inv) {r : Request} (hr : s.reqOut = some r)
    (hn : s.namedRequest.isSome = true) (ok : Bool) :
    ((s.release r ok).continueJob ok).writesIssued = s.writesIssued := by
  by_cases hj : s.job = .tick
  · have hk : s.step ≠ 0#3 := fun hk => by simp [namedRequest_of_tickTop hj hk] at hn
    have hcontinue : (s.release r ok).continueJob ok = (s.release r ok).tickAnswered ok := by
      simp [State.continueJob, hj]
    rw [hcontinue, h.writesIssued_tickAnswered hj hk hr ok]
  · obtain ⟨hcount, herr⟩ := (h.release r ok).continueJob_record hj ok
    have hjob : ((s.release r ok).continueJob ok).job ≠ .tick := by
      rcases continueJob_job (s.release r ok) ok with hend | hend <;> simp [hend, hj]
    exact writesIssued_congr (fun htick => absurd htick hj) (fun htick => absurd htick hjob)
      (continueJob_frame _ ok).1 hcount herr

theorem State.Inv.writesIssued_tickTop (h : s.Inv) (hr : s.reqOut = none) (hj : s.job = .tick) (hk : s.step = 0#3) :
    s.tickTop.writesIssued = s.writesIssued := by
  have he := h.err_ne_of_tick hj
  rw [writesIssued_of_not_tick he (fun _ => hk)]
  rcases h.tickTop_cases with htop | ⟨d, -, htop⟩ <;> rw [htop]
  · exact writesIssued_of_not_tick he (fun hidle => nomatch hidle)
  · simp [State.writesIssued, he, hj, hr]

/-- A transition that adds no request, and is no reset, leaves the count of the writes. -/
theorem Trans.writesIssued_of_kept (h : s.Inv) (ht : Trans s m t) (hm : m ≠ .rst) (hkept : t.requests = s.requests) :
    t.writesIssued = s.writesIssued := by
  have not_ticking {j : Job} (hj : s.job = j) (hne : j ≠ .tick) : s.job = .tick → s.step = 0#3 :=
    fun htick => absurd (hj.symm.trans htick) hne
  cases ht with
  | stay | acceptOpen | acceptStart | acceptClose | acceptStop | respond | strobe => rfl
  | startTick _ hi | startPwrdn _ hi | startOpen _ hi | startCfg _ hi | startClose _ hi =>
    exact writesIssued_congr (not_ticking hi (by decide)) (fun _ => rfl) rfl rfl (.inl ⟨rfl, rfl⟩)
  | tickTop hr hj hk => exact h.writesIssued_tickTop hr hj hk
  | muxDefect i c _ _ _ hc => exact absurd hc (h.muxDigit_ne_error i c)
  | issue r => exact absurd hkept (List.cons_ne_self r s.requests)
  | answer r ok hr hn => exact h.writesIssued_answered hr hn ok
  | withdraw r ok hr hn =>
    obtain ⟨-, -, -, -, -, hreq, -⟩ := h.steps
    simp [hr, hn] at hreq
  | reset => exact absurd rfl hm

/-! ### The latches of a tick past its check -/

/-- Past its check a tick's latches hold the digits of COUNT. -/
abbrev State.Latched (s : State) : Prop := s.job = .tick → s.step ≠ 0#3 → formatDigits s.count.toInt = .ok s.dig

/-- The latches and COUNT stay as they are until the tick ends. -/
theorem State.Latched.continueJob (h : s.Latched) (hn : s.namedRequest.isSome = true) (ok : Bool) :
    (s.continueJob ok).Latched := by
  intro htj _
  have hj : s.job = .tick := by
    rcases continueJob_job s ok with hend | hend
    · simp [hend] at htj
    · exact hend.symm.trans htj
  have hd := h hj (fun hk => by simp [namedRequest_of_tickTop hj hk] at hn)
  have hcontinue : s.continueJob ok = s.tickAnswered ok := by simp [State.continueJob, hj]
  rw [hcontinue] at htj ⊢
  rw [tickAnswered_of_goesOn htj]
  exact hd

theorem Trans.latched (h : s.Inv) (hl : s.Latched) (ht : Trans s m t) : t.Latched := by
  cases ht with
  | startTick | startPwrdn | startOpen | startCfg | startClose => exact fun _ hk => absurd rfl hk
  | tickTop =>
    rcases h.tickTop_cases with htop | ⟨d, hd, htop⟩ <;> rw [htop]
    · exact fun hidle => nomatch hidle
    · exact fun _ _ => hd
  | muxDefect i c _ _ _ hc => exact absurd hc (h.muxDigit_ne_error i c)
  | answer r ok _ hn => exact State.Latched.continueJob (s := s.release r ok) hl hn ok
  | reset => exact fun hidle => nomatch hidle
  | _ => exact hl

/-! ### The invariant -/

theorem State.CountdownInv.taken (h : s.CountdownInv) : s.taken.CountdownInv where
  inv := h.inv.taken
  latched := by simpa using h.latched
  trace := by simpa [State.writesIssued] using h.trace

theorem writesIssued_applyReset (h : s.Inv) : s.applyReset.writesIssued = 0 := by
  rw [writesIssued_of_not_tick (by simp) (by simp)]
  simp [toInt_ofInt_countInit h.config]

theorem State.CountdownInv.applyReset (h : s.CountdownInv) : s.applyReset.CountdownInv where
  inv := h.inv.applyReset
  latched := by simp
  trace := by simp [writesIssued_applyReset h.inv, registerWrites]

/-- The write a tick issues is the countdown's next one. -/
theorem State.CountdownInv.next_write (h : s.CountdownInv) (hr : s.reqOut = none) (hj : s.job = .tick) {r : Request}
    (hn : s.namedRequest = some r) :
    r = countdownWrite s.cfg.segRom s.cfg.countInit.toNat s.writesIssued ∧
      (s.present r).writesIssued = s.writesIssued + 1 ∧ r.kind = 2#2 := by
  obtain ⟨i, w, hk, hw, rfl⟩ := namedRequest_of_tick_cases hj hn
  have hne : s.step ≠ 0#3 := fun h0 => by simp [h0] at hk
  have he := h.inv.err_ne_of_tick hj
  obtain ⟨-, -, -, -, -, -, -, hnonneg⟩ := h.inv.steps
  have hcount := hnonneg hj hne
  have hinit := h.inv.count_le
  have hissued : s.writesIssued = 4 * (s.cfg.countInit - s.count.toInt).toNat + i.toNat := by
    rw [writesIssued_of_tick he hj hne, hr, hk]
    simp
  have hshown : s.cfg.countInit.toNat - (s.cfg.countInit - s.count.toInt).toNat = s.count.toInt.toNat := by omega
  refine ⟨?_, ?_, rfl⟩
  · rw [hissued, countdownWrite_of_tick _ _ _ i.isLt, hshown, countdownWrite_of_latched (h.latched hj hne) hw]
  · rw [hissued, writesIssued_of_tick (s := s.present _) he hj hne]
    simp [hk]
    omega

theorem State.CountdownInv.present (h : s.CountdownInv) (hr : s.reqOut = none) {r : Request}
    (hn : s.namedRequest = some r) : (s.present r).CountdownInv := by
  refine ⟨h.inv.present hn, h.latched, ?_⟩
  rw [State.present_requests, State.present_cfg]
  by_cases hj : s.job = .tick
  · obtain ⟨hnext, hissued, hkind⟩ := h.next_write hr hj hn
    have hcons : registerWrites (r :: s.requests) = r :: registerWrites s.requests := by simp [registerWrites, hkind]
    rw [hcons, List.reverse_cons, h.trace, hissued, List.range_succ, List.map_append, List.map_singleton, ← hnext]
  · have hissued : (s.present r).writesIssued = s.writesIssued :=
      writesIssued_congr (fun htick => absurd htick hj) (fun htick => absurd htick hj) rfl rfl (.inl ⟨rfl, rfl⟩)
    rw [registerWrites_cons (kind_of_namedRequest_of_not_tick hn hj), hissued, h.trace]

theorem Trans.countdownInv (h : s.CountdownInv) (ht : Trans s m t) : t.CountdownInv := by
  obtain rfl | hm := eq_or_ne m .rst
  · cases ht with
    | stay => exact h
    | reset => exact h.applyReset
  · rcases ht.traffic.requests with hkept | ⟨r, hr, hn, rfl⟩ | rfl
    · refine ⟨ht.inv h.inv, ht.latched h.inv h.latched, ?_⟩
      rw [hkept, ht.cfg, ht.writesIssued_of_kept h.inv hm hkept, h.trace]
    · exact h.present hr hn
    · exact h.applyReset

end

/-- Settles O52: the register writes grow only by the issue of a tick's write, which is the countdown's next one; every
other transition leaves their count, and a reset starts both again. -/
theorem everyStepKeepsTheCountdown : Obligations.EveryStepKeepsTheCountdown := by
  intro s t h hst
  obtain ⟨-, ht⟩ := step_trans hst
  exact ht.countdownInv h.taken

/-- Settles O53: with no tick in flight and no failed write, four writes have been issued for each value down from
COUNT_INIT, and at -1 these are COUNT_INIT + 1 values. -/
theorem finishedCountdownHasShownEveryValue : Obligations.FinishedCountdownHasShownEveryValue := by
  intro s h hcount he hj
  rw [h.trace, writesIssued_of_not_tick he (fun htick => absurd htick hj), hcount]
  rfl

end Sys2Proof.Machine
end

/-! ## A whole tick (43_tick_timer.md R182) -/

section
namespace Sys2Proof.Machine

section
variable {s t u : State} {ms : List Move}

/-! ### Steps of a run -/

theorem run_succ (k : Nat) (h : step s = .next t) : Host.Core.run core (k + 1) s = Host.Core.run core k t := by
  have hcore : core.step s = .next t := h
  simp only [Host.Core.run, hcore]

theorem step_of_cons (hc : s.cfg.wf = true) {m : Move} (hm : s.moves = m :: ms) : step s = s.taken.agentStep m := by
  rw [step_of_wf hc, nextMove_of_cons hm]

theorem taken_moves_of_cons {m : Move} (hm : s.moves = m :: ms) : s.taken.moves = ms := by
  rw [taken_of_cons hm]
  rfl

/-! ### The states of a tick -/

/-- The tick that starts in s has come to u, with i of its writes answered ok. -/
structure MidTick (s u : State) (i : Nat) : Prop where
  cfg : u.cfg = s.cfg
  job : u.job = .tick
  step : u.step.toNat = i + 1
  reqOut : u.reqOut = none
  conn : u.conn = true
  cancel : u.cancel = false
  loop : u.loop = true
  count : u.count = s.count
  latched : formatDigits s.count.toInt = .ok u.dig
  kept : u.dstate = s.dstate ∧ u.err = s.err ∧ u.fatal = s.fatal
  requests : requestsOf u.hist =
    ((List.range i).map (countdownWrite s.cfg.segRom s.count.toInt.toNat)).reverse ++ requestsOf s.hist

/-- The start of the tick and its check come to the first write. -/
theorem midTick_start (hc : s.cfg.wf = true) (hr : s.reqOut = none) (hconn : s.conn = true)
    (hstart : s.tickMayStart = true) (hcancel : s.cancel = false) (h : 0 ≤ s.count.toInt)
    (h' : s.count.toInt ≤ 9999) (hm : s.moves = .seq :: .seq :: ms) :
    ∃ u : State, (∀ k, Host.Core.run core (k + 2) s = Host.Core.run core k u) ∧ MidTick s u 0 ∧
      u.moves = ms := by
  obtain ⟨hj, -, -, hdue⟩ := (tickMayStart_iff s).1 hstart
  obtain ⟨hloop, -, -⟩ := (tickDue_iff s).1 hdue
  have hmoves := taken_moves_of_cons hm
  have hfirst : Machine.step s = .next s.taken.startTick := by
    have hstart' : s.taken.tickMayStart = true := by simpa [State.tickMayStart, State.tickDue] using hstart
    rw [step_of_cons hc hm, agentStep_seq_of_idle (by simpa using hr) (by simpa using hj), if_pos hstart']
  obtain ⟨d, hd⟩ := formatDigits_of_in_range h h'
  have hsecond : Machine.step s.taken.startTick = .next { s.taken.startTick.taken with dig := d, step := 1#3 } := by
    have htop : s.taken.startTick.taken.tickTop = { s.taken.startTick.taken with dig := d, step := 1#3 } :=
      (tickTop_of_goesOn (by simpa using hcancel) (by simpa using h)).1 d (by simpa using hd)
    rw [step_of_cons (by simpa using hc) (by simpa using hmoves),
      agentStep_seq_of_unnamed (by simpa using hr) (by simp) (namedRequest_of_tickTop (by simp) (by simp)),
      exec_tick_of_top (by simpa using hr) (by simp) (by simp), htop]
  refine ⟨_, fun k => (run_succ (k + 1) hfirst).trans (run_succ k hsecond), ?_, ?_⟩
  · constructor <;> simp [hr, hconn, hcancel, hloop, hd]
  · exact taken_moves_of_cons (by simpa using hmoves)

/-- u after SEQ's issue of r and BUS's answer ok: the state that the job's rule continues. -/
def State.written (u : State) (r : Request) : State := (u.taken.present r).taken.release r true

theorem written_moves {r : Request} (hm : u.moves = .seq :: .answer true :: ms) : (u.written r).moves = ms :=
  taken_moves_of_cons (s := u.taken.present r) (taken_moves_of_cons hm)

theorem MidTick.namedRequest {i : Nat} (h : MidTick s u i) (hi : i < 4) :
    u.namedRequest = some (countdownWrite s.cfg.segRom s.count.toInt.toNat i) := by
  obtain ⟨j, rfl⟩ : ∃ j : BitVec 2, j.toNat = i := ⟨BitVec.ofNat 2 i, by simpa using hi⟩
  obtain ⟨w, hw⟩ := encodeDigit_ok s.cfg.segRom (u.dig.at j) (formatDigits_at_le h.latched j)
  rw [countdownWrite_of_latched h.latched hw]
  exact namedRequest_of_tick h.job ((tickPosition_eq_some _ _).2 h.step) (by simp [muxDigit, h.cfg, hw])

/-- One write of a tick is issued and answered ok, in two steps. -/
theorem MidTick.run_write {i : Nat} (h : MidTick s u i) (hi : i < 4) (hc : s.cfg.wf = true)
    (hm : u.moves = .seq :: .answer true :: ms) (k : Nat) :
    Host.Core.run core (k + 2) u = Host.Core.run core k
      ((u.written (countdownWrite s.cfg.segRom s.count.toInt.toNat i)).tickAnswered true) := by
  generalize hr : countdownWrite s.cfg.segRom s.count.toInt.toNat i = r
  have hn : u.namedRequest = some r := hr ▸ h.namedRequest hi
  have hcfg : u.cfg.wf = true := h.cfg ▸ hc
  have hissue : Machine.step u = .next (u.taken.present r) := by
    have hn' : u.taken.namedRequest = some r :=
      (namedRequest_congr u.taken_job u.taken_step u.taken_cfg u.taken_dig).trans hn
    have hkind : r.kind ≠ 0#2 := by simp [← hr, countdownWrite]
    rw [step_of_cons hcfg hm, agentStep_seq_of_namedRequest (by simpa using hcfg) (by simpa using h.reqOut) hn',
      issue_of_conn (by simpa using h.reqOut) (by simp [hn']) (by simpa using h.conn) hkind]
  have hanswer : Machine.step (u.taken.present r) = .next ((u.written r).tickAnswered true) := by
    have hn' : (u.taken.present r).taken.namedRequest = some r :=
      (namedRequest_congr (by simp) (by simp) (by simp) (by simp)).trans hn
    rw [step_of_cons (by simpa using hcfg) (by simpa using taken_moves_of_cons hm),
      agentStep_answer_of_tick (r := r) (by simp) (by simpa using h.job) (by simp [hn'])]
    rfl
  exact (run_succ (k + 1) hissue).trans (run_succ k hanswer)

theorem MidTick.requests_written {i : Nat} (h : MidTick s u i) :
    requestsOf (u.written (countdownWrite s.cfg.segRom s.count.toInt.toNat i)).hist =
      ((List.range (i + 1)).map (countdownWrite s.cfg.segRom s.count.toInt.toNat)).reverse ++ requestsOf s.hist := by
  simp [State.written, requestsOf, h.requests, List.range_succ]

/-- The first three writes take the tick to the next one. -/
theorem MidTick.next {i : Nat} (h : MidTick s u i) (hi : i < 3) (hc : s.cfg.wf = true)
    (hm : u.moves = .seq :: .answer true :: ms) :
    ∃ v : State, (∀ k, Host.Core.run core (k + 2) u = Host.Core.run core k v) ∧ MidTick s v (i + 1) ∧
      v.moves = ms := by
  have hrequests := h.requests_written
  have hmoves := written_moves (r := countdownWrite s.cfg.segRom s.count.toInt.toNat i) hm
  have hrun := h.run_write (by omega) hc hm
  have hstep := h.step
  have hlast : u.step ≠ 4#3 := fun h4 => by simp [h4] at hstep; omega
  rw [tickAnswered_next (by simpa [State.written] using hlast)] at hrun
  refine ⟨_, hrun, ?_, hmoves⟩
  constructor
  case step => simpa [State.written, hstep] using tick_step_succ _ hlast (by omega)
  case requests => exact hrequests
  all_goals simp [State.written, h.cfg, h.job, h.conn, h.cancel, h.loop, h.count, h.latched, h.kept]

/-- The fourth write ends the tick with the decrement and the timer armed. -/
theorem MidTick.last (h : MidTick s u 3) (hc : s.cfg.wf = true) (hm : u.moves = [.seq, .answer true]) (k : Nat) :
    Host.Core.run core (k + 2) u = Host.Core.run core k
      { u.written (countdownWrite s.cfg.segRom s.count.toInt.toNat 3) with
        count := s.count - 1#16, tarm := true, tmr := 100#7, job := .idle } := by
  have hlast : u.step = 4#3 := BitVec.eq_of_toNat_eq h.step
  rw [h.run_write (by omega) hc hm, tickAnswered_last (by simpa [State.written] using hlast),
    endTick_of_not_cancel (by simpa [State.written] using h.cancel)]
  simp [State.written, h.count]

end

/-- Settles O37: the start and the check come to the first write with the digits of COUNT latched, three writes each go
on to the next, and the fourth ends the tick. -/
theorem tickShowsCountAndDecrements : Obligations.TickShowsCountAndDecrements := by
  intro s hc hr hconn hj hp hh hloop harm htmr hcancel h h' hm
  have hstart : s.tickMayStart = true :=
    (tickMayStart_iff s).2 ⟨hj, hp, hh, (tickDue_iff s).2 ⟨hloop, harm, htmr⟩⟩
  obtain ⟨u0, run0, mid0, hm0⟩ := midTick_start hc hr hconn hstart hcancel h h' hm
  obtain ⟨u1, run1, mid1, hm1⟩ := mid0.next (by omega) hc hm0
  obtain ⟨u2, run2, mid2, hm2⟩ := mid1.next (by omega) hc hm1
  obtain ⟨u3, run3, mid3, hm3⟩ := mid2.next (by omega) hc hm2
  have hrun := (run0 8).trans ((run1 6).trans ((run2 4).trans ((run3 2).trans (mid3.last hc hm3 0))))
  have hcount : s.count.toInt.toNat = s.count.toNat := toNat_toInt_of_nonneg h
  refine ⟨_, hrun, ?_, ?_, rfl, rfl, ?_, rfl, ?_⟩
  · simpa [List.range_succ, hcount] using mid3.requests_written
  · rw [← decrementCount_eq_sub]
    exact decrementCount_toInt h
  · simpa [State.written] using mid3.loop
  · simpa [State.written] using mid3.kept

end Sys2Proof.Machine
end

/-! ## What a failed transaction does at the chip (60_exceptions.md R211, 93_implementation_defined.md U12) -/

section
namespace Sys2Proof.Machine

theorem failedPayload_regRequest (reg : Byte) (v : Word) (n : Nat) :
    (regRequest reg v).failedPayload n = [reg, Config.freeByte n, Config.freeByte (n + 1)] := rfl

theorem failedPayload_cmdRequest (opc par : Nibble) (n : Nat) :
    (cmdRequest (opc ++ par)).failedPayload n = [opc ++ Config.freeNibble n] := by
  simp [Request.failedPayload, cmdRequest, opcodeOf_append, commandByte_eq_append]

/-- The display RAM around a register write: the low byte at the digit's offset, the high byte above it, the other offsets
as they were. -/
theorem Chip.read_take_regWrite (c : Chip) (i : BitVec 2) (lo hi : Byte) :
    Memory.read (c.take [regMap i, lo, hi]).ram (2 * i.toNat) = some lo ∧
    Memory.read (c.take [regMap i, lo, hi]).ram (2 * i.toNat + 1) = some hi ∧
    ∀ a, a ≠ 2 * i.toNat → a ≠ 2 * i.toNat + 1 →
      Memory.read (c.take [regMap i, lo, hi]).ram a = Memory.read c.ram a := by
  rw [Chip.take_regWrite]
  refine ⟨?low, Memory.read_write_same .., fun a hlow hhigh => ?other⟩
  case low => rw [Memory.read_write_other _ _ _ _ (by omega), Memory.read_write_same]
  case other => rw [Memory.read_write_other _ _ _ _ hhigh, Memory.read_write_other _ _ _ _ hlow]

/-- Settles O44: a failed transaction reaches the chip as a payload to the same register or setting with free values. -/
theorem failedWriteTouchesOnlyItsDigitOrSetting : Obligations.FailedWriteTouchesOnlyItsDigitOrSetting := by
  refine ⟨fun s i v hr => ?register, fun s par => ?command⟩
  case register =>
    obtain ⟨t, ht, hchip⟩ := agentStep_answer_chip hr false
    replace hchip : t.chip = s.chip.take [regMap i, Config.freeByte s.draws, Config.freeByte (s.draws + 1)] := hchip
    obtain ⟨hlow, hhigh, hother⟩ :=
      s.chip.read_take_regWrite i (Config.freeByte s.draws) (Config.freeByte (s.draws + 1))
    rw [← hchip] at hlow hhigh hother
    rw [Chip.take_regWrite] at hchip
    exact ⟨t, ht, hother, hlow, hhigh, by simp [hchip], by simp [hchip], by simp [hchip]⟩
  case command =>
    have failed {opc : Nibble} (hr : s.reqOut = some (cmdRequest (opc ++ par))) :
        ∃ t, s.agentStep (.answer false) = .next t ∧ t.chip = s.chip.take [opc ++ Config.freeNibble s.draws] := by
      simpa [failedPayload_cmdRequest] using agentStep_answer_chip hr false
    refine ⟨fun hr => ?_, fun hr => ?_, fun hr => ?_⟩
    · simpa only [Chip.take_sysSetup] using failed hr
    · simpa only [Chip.take_displaySetup] using failed hr
    · simpa only [Chip.take_dimming] using failed hr

end Sys2Proof.Machine
end

/-! ## The record of the errors raised (60_exceptions.md R213, R214) -/

section
namespace Sys2Proof.Machine

/-- What the block records of its errors (10_state.md R21, R34 to R38). -/
structure ErrorRecord where
  fatal : Bool
  dead : Bool
  defect : Bool
  warnSd : Bool
  warnCl : Bool
  err : Code
  errStep : BitVec 3

def State.record (s : State) : ErrorRecord where
  fatal := s.fatal
  dead := s.dead
  defect := s.defect
  warnSd := s.warnSd
  warnCl := s.warnCl
  err := s.err
  errStep := s.errStep

/-- No flag of the first record is cleared in the second. -/
def ErrorRecord.Keeps (a b : ErrorRecord) : Prop :=
  (a.fatal = true → b.fatal = true) ∧ (a.dead = true → b.dead = true) ∧ (a.defect = true → b.defect = true) ∧
    (a.warnSd = true → b.warnSd = true) ∧ (a.warnCl = true → b.warnCl = true)

theorem ErrorRecord.Keeps.refl (a : ErrorRecord) : a.Keeps a := ⟨id, id, id, id, id⟩

/-- What a transition records: nothing, a warning, or an error that ends the normal run, which the invariant has the first
one be. -/
inductive Records (s t : State) : Prop where
  | nothing : t.record = s.record → Records s t
  | warning (c : Code) : c = .closeFailed ∨ c = .shutdownWriteFailed →
      t.record = (s.raiseError c s.step).record → Records s t
  | fatal (c : Code) : (s.Inv → s.fatal = false) → t.record = (s.raiseError c s.step).record → Records s t

section
variable {s t : State} {m : Move}

@[simp] theorem State.taken_record (s : State) : s.taken.record = s.record := by simp [State.record]

/-- Raising an error sets flags and clears none. -/
theorem raiseError_keeps (s : State) (c : Code) (k : BitVec 3) : s.record.Keeps (s.raiseError c k).record := by
  cases c <;> simp [ErrorRecord.Keeps, State.record, State.raiseError]

/-- A warning leaves ERR and ERR_STEP alone (60_exceptions.md R207, R208). -/
theorem raiseError_err_of_warning {c : Code} (hc : c = .closeFailed ∨ c = .shutdownWriteFailed) (s : State)
    (k : BitVec 3) : (s.raiseError c k).err = s.err ∧ (s.raiseError c k).errStep = s.errStep := by
  rcases hc with rfl | rfl <;> exact ⟨rfl, rfl⟩

theorem Records.keeps (hr : Records s t) : s.record.Keeps t.record := by
  cases hr with
  | nothing h => exact h ▸ .refl _
  | warning c _ h | fatal c _ h => exact h ▸ raiseError_keeps s c s.step

theorem Records.err_of_fatal (hr : Records s t) (h : s.Inv) (hf : s.fatal = true) :
    t.record.err = s.record.err ∧ t.record.errStep = s.record.errStep := by
  cases hr with
  | nothing hkept => simp [hkept]
  | warning c hc hraised =>
    rw [hraised]
    exact raiseError_err_of_warning hc s s.step
  | fatal c hfirst => simp [hfirst h] at hf

/-- No tick runs after a fatal error. -/
theorem State.Inv.not_fatal_of_tick (h : s.Inv) (hj : s.job = .tick) : s.fatal = false := by
  obtain ⟨hloop, -⟩ := h.of_tick hj
  obtain ⟨-, -, -, -, hfatal, -⟩ := h.loop
  exact Bool.eq_false_iff.2 fun hf => by simp [hfatal hf] at hloop

/-- The device is opened once, before any error. -/
theorem State.Inv.not_fatal_of_opening (h : s.Inv) (hj : s.job = .opening) : s.fatal = false := by
  obtain ⟨-, hs, hdead⟩ := h.of_opening hj
  obtain ⟨-, -, -, hfatal, -⟩ := h.loop
  exact hfatal hs hdead

theorem State.Inv.not_fatal_of_cfg (h : s.Inv) (hj : s.job = .cfg) : s.fatal = false := by
  obtain ⟨-, -, hfatal⟩ := h.of_cfg hj
  exact hfatal

theorem records_tickTop (hj : s.job = .tick) : Records s s.tickTop := by
  unfold State.tickTop
  split
  · exact .nothing rfl
  · split
    · exact .nothing rfl
    · split
      · exact .nothing rfl
      · exact .fatal _ (·.not_fatal_of_tick hj) rfl

/-- OPEN, CFG and TICK fail with a fatal error, PWRDN and CLOSE with a warning. -/
theorem records_answered (s : State) (r : Request) (ok : Bool) : Records s ((s.release r ok).continueJob ok) := by
  simp only [State.continueJob, State.release_job]
  cases hj : s.job with
  | opening =>
    cases ok
    · exact .fatal .busUnavailable (·.not_fatal_of_opening hj) rfl
    · exact .nothing rfl
  | cfg =>
    simp only [State.cfgAnswered]
    split
    · split <;> exact .nothing rfl
    · exact .fatal .configWriteFailed (·.not_fatal_of_cfg hj) rfl
  | tick =>
    simp only [State.tickAnswered, State.endTick]
    split
    · repeat' split
      all_goals exact .nothing (by simp [State.record])
    · exact .fatal .displayWriteFailed (·.not_fatal_of_tick hj) rfl
  | pwrdn =>
    cases ok
    · refine .warning .shutdownWriteFailed (.inr rfl) ?_
      simp only [State.pwrdnAnswered]
      split <;> rfl
    · refine .nothing ?_
      simp only [State.pwrdnAnswered]
      split <;> rfl
  | closing =>
    cases ok
    · exact .warning .closeFailed (.inl rfl) rfl
    · exact .nothing rfl
  | idle | halt => exact .nothing rfl

theorem Trans.records (ht : Trans s m t) (hm : m ≠ .rst) : Records s t := by
  cases ht with
  | tickTop _ hj => exact records_tickTop hj
  | muxDefect i c _ hj => exact .fatal c (·.not_fatal_of_tick hj) rfl
  | answer r ok => exact records_answered s r ok
  | reset => exact absurd rfl hm
  | _ => exact .nothing rfl

end

/-- Settles O57: a transition but reset raises at most one error, which clears no flag, and after a fatal error that is a
warning. -/
theorem onlyResetClearsTheRecord : Obligations.OnlyResetClearsTheRecord := by
  intro s t hst hm
  obtain ⟨-, ht⟩ := step_trans hst
  have hrec : Records s.taken t := ht.records hm
  obtain ⟨hfatal, hdead, hdefect, hwarnSd, hwarnCl⟩ : s.record.Keeps t.record := by simpa using hrec.keeps
  refine ⟨hfatal, hdead, hdefect, hwarnSd, hwarnCl, fun h hf => ?_⟩
  have herr := hrec.err_of_fatal h.taken (by simpa using hf)
  rwa [s.taken_record] at herr

end Sys2Proof.Machine
end

/-! ## HALT (60_exceptions.md R204) -/

section
namespace Sys2Proof.Machine

/-- In HALT the timer may count down and BUS may take its request back; nothing else happens but reset. -/
theorem Trans.of_halt {s t : State} {m : Move} (hj : s.job = .halt) (ht : Trans s m t) (hm : m ≠ .rst) :
    t = s ∨ t = { s with tmr := s.tmr - 1#7 } ∨ ∃ r ok, t = s.release r ok := by
  have hready : s.cmdReady = false := by simp [State.cmdReady, hj]
  have hnamed := namedRequest_of_halt s hj
  cases ht with
  | stay => exact .inl rfl
  | strobe => exact .inr (.inl rfl)
  | withdraw r ok => exact .inr (.inr ⟨r, ok, rfl⟩)
  | reset => exact absurd rfl hm
  -- The guard of every other transition fails: `cmd_ready`, another JOB, or a request that the job names.
  | _ => simp_all

/-- Settles O59: neither the timer nor BUS writes JOB, a command's registers, the pulses or the requests. -/
theorem haltIsLeftOnlyByReset : Obligations.HaltIsLeftOnlyByReset := by
  intro s t hj hst hm
  obtain ⟨-, ht⟩ := step_trans hst
  rcases ht.of_halt (by simpa using hj) hm with rfl | rfl | ⟨r, ok, rfl⟩ <;>
    simp [State.cmdReady, hj, requestsOf]

end Sys2Proof.Machine
end

/-! ## Reset (70_reset_and_hazards.md R230, R231, R233, R234) -/

section
namespace Sys2Proof.Machine

/-! ### `rst` -/

/-- `rst` is no operation of the opcode table, and it is enabled in every state (70_reset_and_hazards.md R230). -/
theorem agentStep_rst (s : State) : s.agentStep .rst = .next s.applyReset := rfl

/-- `rst` leaves nothing of the state before it but the parameters, the chip, the history and the inputs. -/
theorem applyReset_eq_initial (s : State) :
    s.applyReset = { State.initial s.cfg s.chip s.moves s.draws with hist := .rst :: s.hist } := rfl

theorem applyReset_status (s : State) : s.applyReset.status = 0x0000#16 := by
  have hbusy : s.applyReset.busy = false := rfl
  simp [State.status, hbusy, Code.value, DState.code]

/-- An answer that comes after `rst` finds the request withdrawn (70_reset_and_hazards.md R233). -/
theorem agentStep_answer_of_applyReset (s : State) (ok : Bool) :
    s.applyReset.agentStep (.answer ok) = .next s.applyReset :=
  strayAnswerHasNoEffect _ ok s.applyReset_reqOut

/-- Settles O8: the step is `applyReset` of the state without its next move, which has the parameters, the chip and the
history of the state before. -/
theorem rstSetsEveryRegister : Obligations.RstSetsEveryRegister := by
  intro s hc hm
  refine ⟨s.taken.applyReset, ?_, ?_, rfl, rfl, applyReset_status _, ?_, rfl, ?_, agentStep_answer_of_applyReset _⟩
  · rw [step_of_wf hc, hm, agentStep_rst]
  · rw [applyReset_eq_initial]
    simp [State.initial, State.reset]
  · simp [State.countOut]
  · simp [requestsOf]

/-! ### The states right after reset -/

section
variable {cfg : Config} {chip : Chip} (hc : cfg.wf = true) (hm : Memory.wf chip.ram = true) (moves : List Move)
  (draws : Nat)

@[simp] theorem initial_job : (State.initial cfg chip moves draws).job = .idle := rfl

@[simp] theorem initial_err : (State.initial cfg chip moves draws).err = .ok := rfl

@[simp] theorem initial_cfg : (State.initial cfg chip moves draws).cfg = cfg := rfl

@[simp] theorem initial_requests : (State.initial cfg chip moves draws).requests = [] := rfl

include hc in
/-- COUNT holds COUNT_INIT, so no tick has ended. -/
theorem initial_writesIssued : (State.initial cfg chip moves draws).writesIssued = 0 := by
  have hcount : (State.initial cfg chip moves draws).count.toInt = cfg.countInit := toInt_ofInt_countInit hc
  rw [writesIssued_of_not_tick (by simp) (by simp), hcount]
  simp

include hc hm

theorem initial_orderInv : (State.initial cfg chip moves draws).OrderInv where
  inv := initial_inv hc hm moves draws
  ordered := by simp [inOrder]
  bounded := by simp

theorem initial_countdownInv : (State.initial cfg chip moves draws).CountdownInv where
  inv := initial_inv hc hm moves draws
  latched := by simp
  trace := by simp [initial_writesIssued hc, registerWrites]

end

/-- Settles O47: right after reset nothing has been issued and COUNT is COUNT_INIT, and the machine's own reset state is
such a state. -/
theorem invariantsHoldAtReset : Obligations.InvariantsHoldAtReset :=
  ⟨fun _ _ moves draws hc hm =>
    ⟨initial_inv hc hm moves draws, initial_orderInv hc hm moves draws, initial_countdownInv hc hm moves draws⟩,
    rfl, rfl, rfl, rfl⟩

end Sys2Proof.Machine
end
